-- ==== Sys2Proof/Word.lean ====
section
/-! DEFINITION. The plain data of the FLAC frame parser: bytes and sample cells, the decoder states, the command
names, the fault names, the register groups and the requests a host can place on the command port. -/

namespace Sys2Proof

/-- One byte of STREAM (R21). -/
abbrev Byte := BitVec 8

/-- One sample cell: `CELL_W` = 64 bits, read as two's complement (R4, R29). -/
abbrev Cell := BitVec 64

/-- The four values of `STATE` (R24). -/
inductive DecState where
  | init
  | hasMarker
  | hasMetadata
  | complete
deriving DecidableEq, Repr, Inhabited

/-- The three commands of the host (R122). -/
inductive Command where
  | decodeMarker
  | decodeMetadata
  | decodeAudio
deriving DecidableEq, Repr, Inhabited

/-- The two error kinds (R290). -/
inductive FaultKind where
  | protocolError
  | assertionError
deriving DecidableEq, Repr, Inhabited

/-- The cause codes of R291 (P01 to P14) and R292 (A01 to A07). -/
inductive Cause where
  | p01 | p02 | p03 | p04 | p05 | p06 | p07 | p08 | p09 | p10 | p11 | p12 | p13 | p14
  | a01 | a02 | a03 | a04 | a05 | a06 | a07
deriving DecidableEq, Repr, Inhabited

/-- One literal value of `FAULT_INFO`: a number, or for A07 a command or a decoder state (R291, R292). -/
inductive InfoValue where
  | num (v : Int)
  | cmd (c : Command)
  | st (d : DecState)
deriving DecidableEq, Repr, Inhabited

/-- `FAULT_INFO`: the pair (got, expected or limit); `none` is the "-" of the tables of R291 and R292. -/
structure FaultInfo where
  got : Option InfoValue
  expected : Option InfoValue
deriving DecidableEq, Repr, Inhabited

/-- What `raise Kind(cause, info)` carries (R7); the kind is a function of the cause. -/
structure Raise where
  cause : Cause
  info : FaultInfo
deriving DecidableEq, Repr, Inhabited

/-- The STREAMINFO register group `SI_*` with the widths of R26. -/
structure StreamInfo where
  minBlock : BitVec 16
  maxBlock : BitVec 16
  minFrame : BitVec 24
  maxFrame : BitVec 24
  rate : BitVec 20
  channels : BitVec 4
  bps : BitVec 6
  total : BitVec 36
deriving DecidableEq, Repr, Inhabited

/-- The frame register group `F_*` with the widths of R28. -/
structure FrameRegs where
  blocksize : BitVec 17
  rate : BitVec 20
  chAssign : BitVec 4
  nch : BitVec 2
  bps : BitVec 6
deriving DecidableEq, Repr, Inhabited

/-- The working values that live inside one command only. The R31 registers are `ch` to `bitCount`; the first two
groups are the local variables of the pseudocode of R153 and R180, `wastedFlag`, `escaped` and `index` those of
R210 and R250. -/
structure Work where
  metaLast : Bool
  metaType : BitVec 7
  metaLength : BitVec 24
  bsCode : BitVec 4
  srCode : BitVec 4
  caCode : BitVec 4
  ssCode : BitVec 3
  blocksize : Nat
  rate : Nat
  nch : Nat
  bps : Nat
  ch : Nat
  bpsEff : Nat
  w : Nat
  type : Nat
  wastedFlag : Bool
  order : Nat
  method : Nat
  po : Nat
  pcount : Nat
  psize : Nat
  param : Nat
  escaped : Bool
  bitCount : Nat
  index : Nat
deriving DecidableEq, Repr, Inhabited

/-- The bit-source operations of R130 to R137, as calls. -/
inductive Primitive where
  | getUint (n : Nat)
  | getInt (n : Nat)
  | getByte
  | align
  | clz8 (b : Byte)
  | eos
  | getUnary
  | skipBytes (n : Nat)
deriving DecidableEq, Repr

/-- Which syntax element of R90 is expected at `BITPOS`: the context without which stream bits name no element. -/
inductive Kind where
  | marker
  | metaHdr
  | streaminfoBody
  | skippedBody
  | framePreamble
  | bsCode
  | srCode
  | caCode
  | ssCode
  | codedNumber
  | blocksizeExt8
  | blocksizeExt16
  | rateExt8Khz
  | rateExt16Hz
  | rateExt16Dhz
  | crc8
  | subframeHdr
  | wastedUnary
  | constantBody
  | verbatimBody
  | fixedBody
  | lpcBody
  | residualHdr
  | param4
  | param5
  | escapeWidth
  | rawResidual
  | riceWord
  | padding
  | crc16
deriving DecidableEq, Repr

/-- One request on the command port. A host issues `command` (R122, a 2-bit number) and `construct` (reset, R330);
`bitSource` and `element` are the calls the block's own components make (R1), given a place on the port so that one
step can run one of them (log entry 2). -/
inductive Request where
  | command (n : BitVec 2)
  | bitSource (p : Primitive)
  | element (k : Kind)
  | construct (stream : List Byte) (capacity : Nat)
deriving DecidableEq, Repr

end Sys2Proof
end

