-- ==== Sys2Proof/Config.lean ====
section
/-! DEFINITION. The fixed parameters of R4 and the free values: every value the spec calls unspecified is an opaque
constant here, applied to a draw number kept in State, so that no proof can see what it is (log entry 3). -/

namespace Sys2Proof.Config

/-- `N` when the host does not choose one (R4). -/
def defaultCapacity : Nat := 8192

/-- The widest single bit-source read, `MAX_FIELD` (R4). -/
def maxField : Nat := 64

/-- The marker constant (R4, R91). -/
def marker : Nat := 0x664C6143

/-- The sync constant (R4, R95). -/
def sync : Nat := 0x3FFE

/-- `BITPOS` after a fault, before it is brought under its bound `8·L` (R295, R22). -/
opaque freeBitpos : Nat → Nat

/-- `SI_*` after a fault (R295) and read while `SI_VALID = 0` (R27). -/
opaque freeStreamInfo : Nat → StreamInfo

/-- `SI_VALID` after a fault (R295). -/
opaque freeSiValid : Nat → Bool

/-- `F_*` after a fault (R295) and read by the host while `F_VALID = 0` (R33). -/
opaque freeFrameRegs : Nat → FrameRegs

/-- The sample cell `(c, i)` where it is unspecified (R29, R295, R33). -/
opaque freeCell : Nat → Nat → Nat → Cell

/-- `COEF[j]` after every command (R30), `j` the second argument. -/
opaque freeCoef : Nat → Nat → BitVec 16

/-- `LPC_PREC` after every command (R30). -/
opaque freeLpcPrec : Nat → BitVec 5

/-- `LPC_SHIFT` after every command (R30). -/
opaque freeLpcShift : Nat → BitVec 5

/-- The working registers after every command (R31). -/
opaque freeWork : Nat → Work

/-- `FAULT_KIND` read by the host while `FAULT = 0` (R25, R33). -/
opaque freeFaultKind : Nat → FaultKind

/-- `FAULT_CAUSE` read by the host while `FAULT = 0` (R25, R33). -/
opaque freeFaultCause : Nat → Cause

/-- `FAULT_INFO` read by the host while `FAULT = 0` (R25, R33). -/
opaque freeFaultInfo : Nat → FaultInfo

end Sys2Proof.Config
end

