-- ==== Sys2Proof/Syntax.lean ====
section
/-! DEFINITION. The instruction set: one constructor per row of `spec/opcode_table.json`, in the table's order. A
constructor carries the bits of its row that the row leaves open; a row whose bits are those of its parts
(`VERBATIM_BODY`, `FIXED_BODY`, `LPC_BODY`, `SKIPPED_BODY`) carries only what the context fixed before it. -/

namespace Sys2Proof

inductive Instr where
  /-- `decode_marker` (R152): the number of the command is R122's. -/
  | decodeMarker
  /-- `decode_metadata` (R153): the number of the command is R122's. -/
  | decodeMetadata
  /-- `decode_audio` (R158): the number of the command is R122's. -/
  | decodeAudio
  /-- `command_3_unused` (R122): unused command number; a model need not represent it. -/
  | command3Unused
  /-- `get_uint` (R130): internal primitive of the bit source; no stream encoding of its own. -/
  | getUint (n : Nat)
  /-- `get_int` (R131): internal primitive of the bit source; no stream encoding of its own. -/
  | getInt (n : Nat)
  /-- `get_byte` (R132): internal primitive of the bit source; no stream encoding of its own. -/
  | getByte
  /-- `align` (R133): internal primitive of the bit source; no stream encoding of its own. -/
  | align
  /-- `clz8` (R134): internal primitive of the bit source; no stream encoding of its own. -/
  | clz8 (b : Byte)
  /-- `eos` (R135): internal primitive of the bit source; no stream encoding of its own. -/
  | eos
  /-- `get_unary` (R136): internal primitive of the bit source; no stream encoding of its own. -/
  | getUnary
  /-- `skip_bytes` (R137): internal primitive of the bit source; no stream encoding of its own. -/
  | skipBytes (n : Nat)
  /-- `MARKER` (R152): layout 30_encoding.md rule R91; any other value ProtocolError(P01). -/
  | marker
  /-- `META_STREAMINFO` (R154): type 0; followed by STREAMINFO_BODY (34 bytes, length ignored); layout rule R92, type table rule R118. -/
  | metaStreaminfo (last : Bool) (length : BitVec 24)
  /-- `META_SKIP_6` (R156): type 64..127 (highest set bit of type is bit 6); body of `length` bytes skipped; the 7 META_SKIP rows together are type 1..127. -/
  | metaSkip6 (last : Bool) (low : BitVec 6) (length : BitVec 24)
  /-- `META_SKIP_5` (R156): type 32..63 (highest set bit of type is bit 5); body of `length` bytes skipped; the 7 META_SKIP rows together are type 1..127. -/
  | metaSkip5 (last : Bool) (low : BitVec 5) (length : BitVec 24)
  /-- `META_SKIP_4` (R156): type 16..31 (highest set bit of type is bit 4); body of `length` bytes skipped; the 7 META_SKIP rows together are type 1..127. -/
  | metaSkip4 (last : Bool) (low : BitVec 4) (length : BitVec 24)
  /-- `META_SKIP_3` (R156): type 8..15 (highest set bit of type is bit 3); body of `length` bytes skipped; the 7 META_SKIP rows together are type 1..127. -/
  | metaSkip3 (last : Bool) (low : BitVec 3) (length : BitVec 24)
  /-- `META_SKIP_2` (R156): type 4..7 (highest set bit of type is bit 2); body of `length` bytes skipped; the 7 META_SKIP rows together are type 1..127. -/
  | metaSkip2 (last : Bool) (low : BitVec 2) (length : BitVec 24)
  /-- `META_SKIP_1` (R156): type 2..3 (highest set bit of type is bit 1); body of `length` bytes skipped; the 7 META_SKIP rows together are type 1..127. -/
  | metaSkip1 (last : Bool) (low : BitVec 1) (length : BitVec 24)
  /-- `META_SKIP_0` (R156): type 1..1 (highest set bit of type is bit 0); body of `length` bytes skipped; the 7 META_SKIP rows together are type 1..127. -/
  | metaSkip0 (last : Bool) (length : BitVec 24)
  /-- `STREAMINFO_BODY` (R154): layout rule R93; checks rule R155 (A02 then A01). -/
  | streaminfoBody (minBlock : BitVec 16) (maxBlock : BitVec 16) (minFrame : BitVec 24) (maxFrame : BitVec 24) (rate : BitVec 20) (channelsMinus1 : BitVec 3) (bpsMinus1 : BitVec 5) (total : BitVec 36) (md5 : BitVec 128)
  /-- `SKIPPED_BODY` (R156): layout rule R94; content not examined. -/
  | skippedBody (length : BitVec 24)
  /-- `FRAME_PREAMBLE` (R180): layout rule R95; sync mismatch P02 (rule R181), reserved1=1 P03 (rule R182), reserved2=1 P04 (rule R185); s ignored (rule R183). -/
  | framePreamble (strategy : Bool) (bs : BitVec 4) (sr : BitVec 4) (ca : BitVec 4) (ss : BitVec 3)
  /-- `BS_CODE_0` (R187): blocksize = reserved: ProtocolError(P05); table rule R112. -/
  | bsCode0
  /-- `BS_CODE_1` (R187): blocksize = 192; table rule R112. -/
  | bsCode1
  /-- `BS_CODE_2` (R187): blocksize = 576; table rule R112. -/
  | bsCode2
  /-- `BS_CODE_3` (R187): blocksize = 1152; table rule R112. -/
  | bsCode3
  /-- `BS_CODE_4` (R187): blocksize = 2304; table rule R112. -/
  | bsCode4
  /-- `BS_CODE_5` (R187): blocksize = 4608; table rule R112. -/
  | bsCode5
  /-- `BS_CODE_6` (R187): blocksize = BLOCKSIZE_EXT(8)+1; table rule R112. -/
  | bsCode6
  /-- `BS_CODE_7` (R187): blocksize = BLOCKSIZE_EXT(16)+1; table rule R112. -/
  | bsCode7
  /-- `BS_CODE_8` (R187): blocksize = 256; table rule R112. -/
  | bsCode8
  /-- `BS_CODE_9` (R187): blocksize = 512; table rule R112. -/
  | bsCode9
  /-- `BS_CODE_10` (R187): blocksize = 1024; table rule R112. -/
  | bsCode10
  /-- `BS_CODE_11` (R187): blocksize = 2048; table rule R112. -/
  | bsCode11
  /-- `BS_CODE_12` (R187): blocksize = 4096; table rule R112. -/
  | bsCode12
  /-- `BS_CODE_13` (R187): blocksize = 8192; table rule R112. -/
  | bsCode13
  /-- `BS_CODE_14` (R187): blocksize = 16384; table rule R112. -/
  | bsCode14
  /-- `BS_CODE_15` (R187): blocksize = 32768; table rule R112. -/
  | bsCode15
  /-- `SR_CODE_0` (R188): rate in Hz = SI_RATE (from STREAMINFO); table rule R113. -/
  | srCode0
  /-- `SR_CODE_1` (R188): rate in Hz = 88200; table rule R113. -/
  | srCode1
  /-- `SR_CODE_2` (R188): rate in Hz = 176400; table rule R113. -/
  | srCode2
  /-- `SR_CODE_3` (R188): rate in Hz = 192000; table rule R113. -/
  | srCode3
  /-- `SR_CODE_4` (R188): rate in Hz = 8000; table rule R113. -/
  | srCode4
  /-- `SR_CODE_5` (R188): rate in Hz = 16000; table rule R113. -/
  | srCode5
  /-- `SR_CODE_6` (R188): rate in Hz = 22050; table rule R113. -/
  | srCode6
  /-- `SR_CODE_7` (R188): rate in Hz = 24000; table rule R113. -/
  | srCode7
  /-- `SR_CODE_8` (R188): rate in Hz = 32000; table rule R113. -/
  | srCode8
  /-- `SR_CODE_9` (R188): rate in Hz = 44100; table rule R113. -/
  | srCode9
  /-- `SR_CODE_10` (R188): rate in Hz = 48000; table rule R113. -/
  | srCode10
  /-- `SR_CODE_11` (R188): rate in Hz = 96000; table rule R113. -/
  | srCode11
  /-- `SR_CODE_12` (R188): rate in Hz = RATE_EXT(8)*1000; table rule R113. -/
  | srCode12
  /-- `SR_CODE_13` (R188): rate in Hz = RATE_EXT(16); table rule R113. -/
  | srCode13
  /-- `SR_CODE_14` (R188): rate in Hz = RATE_EXT(16)*10; table rule R113. -/
  | srCode14
  /-- `SR_CODE_15` (R188): rate in Hz = reserved: ProtocolError(P06); table rule R113. -/
  | srCode15
  /-- `CA_CODE_0` (R192): independent, 1 channel; table rule R115. -/
  | caCode0
  /-- `CA_CODE_1` (R192): independent, 2 channels; table rule R115. -/
  | caCode1
  /-- `CA_CODE_2` (R192): independent, 3 channels: rejected AssertionError(A04); table rule R115. -/
  | caCode2
  /-- `CA_CODE_3` (R192): independent, 4 channels: rejected AssertionError(A04); table rule R115. -/
  | caCode3
  /-- `CA_CODE_4` (R192): independent, 5 channels: rejected AssertionError(A04); table rule R115. -/
  | caCode4
  /-- `CA_CODE_5` (R192): independent, 6 channels: rejected AssertionError(A04); table rule R115. -/
  | caCode5
  /-- `CA_CODE_6` (R192): independent, 7 channels: rejected AssertionError(A04); table rule R115. -/
  | caCode6
  /-- `CA_CODE_7` (R192): independent, 8 channels: rejected AssertionError(A04); table rule R115. -/
  | caCode7
  /-- `CA_CODE_8` (R192): left/side, 2 channels, side = channel 1 (rule R272); table rule R115. -/
  | caCode8
  /-- `CA_CODE_9` (R192): side/right, 2 channels, side = channel 0 (rule R273); table rule R115. -/
  | caCode9
  /-- `CA_CODE_10` (R192): mid/side, 2 channels, side = channel 1 (rule R274); table rule R115. -/
  | caCode10
  /-- `CA_CODE_11` (R192): reserved: AssertionError(A03); table rule R115. -/
  | caCode11
  /-- `CA_CODE_12` (R192): reserved: AssertionError(A03); table rule R115. -/
  | caCode12
  /-- `CA_CODE_13` (R192): reserved: AssertionError(A03); table rule R115. -/
  | caCode13
  /-- `CA_CODE_14` (R192): reserved: AssertionError(A03); table rule R115. -/
  | caCode14
  /-- `CA_CODE_15` (R192): reserved: AssertionError(A03); table rule R115. -/
  | caCode15
  /-- `SS_CODE_0` (R191): sample size in bits = SI_BPS (from STREAMINFO); table rule R114. -/
  | ssCode0
  /-- `SS_CODE_1` (R191): sample size in bits = 8; table rule R114. -/
  | ssCode1
  /-- `SS_CODE_2` (R191): sample size in bits = 12; table rule R114. -/
  | ssCode2
  /-- `SS_CODE_3` (R191): sample size in bits = reserved: ProtocolError(P07); table rule R114. -/
  | ssCode3
  /-- `SS_CODE_4` (R191): sample size in bits = 16; table rule R114. -/
  | ssCode4
  /-- `SS_CODE_5` (R191): sample size in bits = 20; table rule R114. -/
  | ssCode5
  /-- `SS_CODE_6` (R191): sample size in bits = 24; table rule R114. -/
  | ssCode6
  /-- `SS_CODE_7` (R191): sample size in bits = 32; table rule R114. -/
  | ssCode7
  /-- `CODED_NUMBER_K0_00` (R186): 0 following byte(s), all discarded unchecked; layout rule R96. -/
  | codedNumberK000 (x : BitVec 7)
  /-- `CODED_NUMBER_K0_80` (R186): 0 following byte(s), all discarded unchecked; layout rule R96. -/
  | codedNumberK080 (x : BitVec 6)
  /-- `CODED_NUMBER_K1_C0` (R186): 1 following byte(s), all discarded unchecked; layout rule R96. -/
  | codedNumberK1C0 (x : BitVec 5) (following : BitVec 8)
  /-- `CODED_NUMBER_K2_E0` (R186): 2 following byte(s), all discarded unchecked; layout rule R96. -/
  | codedNumberK2E0 (x : BitVec 4) (following : BitVec 16)
  /-- `CODED_NUMBER_K3_F0` (R186): 3 following byte(s), all discarded unchecked; layout rule R96. -/
  | codedNumberK3F0 (x : BitVec 3) (following : BitVec 24)
  /-- `CODED_NUMBER_K4_F8` (R186): 4 following byte(s), all discarded unchecked; layout rule R96. -/
  | codedNumberK4F8 (x : BitVec 2) (following : BitVec 32)
  /-- `CODED_NUMBER_K5_FC` (R186): 5 following byte(s), all discarded unchecked; layout rule R96. -/
  | codedNumberK5FC (x : BitVec 1) (following : BitVec 40)
  /-- `CODED_NUMBER_K6_FE` (R186): 6 following byte(s), all discarded unchecked; layout rule R96. -/
  | codedNumberK6FE (following : BitVec 48)
  /-- `CODED_NUMBER_K7_FF` (R186): 7 following byte(s), all discarded unchecked; layout rule R96. -/
  | codedNumberK7FF (following : BitVec 56)
  /-- `BLOCKSIZE_EXT8` (R187): present iff bs_code = 6; layout rule R97. -/
  | blocksizeExt8 (v : BitVec 8)
  /-- `BLOCKSIZE_EXT16` (R187): present iff bs_code = 7; big-endian; layout rule R97. -/
  | blocksizeExt16 (v : BitVec 16)
  /-- `RATE_EXT8_KHZ` (R188): present iff sr_code = 12; layout rule R98. -/
  | rateExt8Khz (v : BitVec 8)
  /-- `RATE_EXT16_HZ` (R188): present iff sr_code = 13; layout rule R98. -/
  | rateExt16Hz (v : BitVec 16)
  /-- `RATE_EXT16_DHZ` (R188): present iff sr_code = 14; layout rule R98. -/
  | rateExt16Dhz (v : BitVec 16)
  /-- `CRC8` (R189): read and discarded; layout rule R99. -/
  | crc8 (v : BitVec 8)
  /-- `SUBFRAME_CONSTANT` (R216): type 0; body rule R102; header rule R212, wasted bits rule R213. -/
  | subframeConstant (zero : Bool) (wasted : Bool)
  /-- `SUBFRAME_VERBATIM` (R217): type 1; body rule R103. -/
  | subframeVerbatim (zero : Bool) (wasted : Bool)
  /-- `SUBFRAME_RESERVED_2_3` (R215): type 2..3: ProtocolError(P08). -/
  | subframeReserved2To3 (zero : Bool) (x : BitVec 1)
  /-- `SUBFRAME_RESERVED_4_7` (R215): type 4..7: ProtocolError(P08). -/
  | subframeReserved4To7 (zero : Bool) (x : BitVec 2)
  /-- `SUBFRAME_FIXED0` (R218): type 8; FIXED order 0; body rule R104; coefficients rule R219; restoration rule R221. -/
  | subframeFixed0 (zero : Bool) (wasted : Bool)
  /-- `SUBFRAME_FIXED1` (R218): type 9; FIXED order 1; body rule R104; coefficients rule R219; restoration rule R221. -/
  | subframeFixed1 (zero : Bool) (wasted : Bool)
  /-- `SUBFRAME_FIXED2` (R218): type 10; FIXED order 2; body rule R104; coefficients rule R219; restoration rule R221. -/
  | subframeFixed2 (zero : Bool) (wasted : Bool)
  /-- `SUBFRAME_FIXED3` (R218): type 11; FIXED order 3; body rule R104; coefficients rule R219; restoration rule R221. -/
  | subframeFixed3 (zero : Bool) (wasted : Bool)
  /-- `SUBFRAME_FIXED4` (R218): type 12; FIXED order 4; body rule R104; coefficients rule R219; restoration rule R221. -/
  | subframeFixed4 (zero : Bool) (wasted : Bool)
  /-- `SUBFRAME_RESERVED_13` (R215): type 13: ProtocolError(P08). -/
  | subframeReserved13 (zero : Bool)
  /-- `SUBFRAME_RESERVED_14_15` (R215): type 14..15: ProtocolError(P08). -/
  | subframeReserved14To15 (zero : Bool) (x : BitVec 1)
  /-- `SUBFRAME_RESERVED_16_31` (R215): type 16..31: ProtocolError(P08). -/
  | subframeReserved16To31 (zero : Bool) (x : BitVec 4)
  /-- `SUBFRAME_LPC` (R220): type 32..63; LPC order = type - 31 = ooooo + 1 (1..32); body rule R105; restoration rule R221. -/
  | subframeLpc (zero : Bool) (orderMinus1 : BitVec 5) (wasted : Bool)
  /-- `WASTED_UNARY` (R213): present iff wasted_flag = 1; w = count of zeros (GA literal; decision D19); coding rule R101. -/
  | wastedUnary (w : Nat)
  /-- `CONSTANT_BODY` (R216): layout rule R102. -/
  | constantBody (width : Nat) (v : Int)
  /-- `VERBATIM_BODY` (R217): layout rule R103. -/
  | verbatimBody
  /-- `FIXED_BODY` (R218): layout rule R104. -/
  | fixedBody (order : Fin 5)
  /-- `LPC_BODY` (R220): layout rule R105; shift < 0 is ProtocolError(P14) (decision D21). -/
  | lpcBody (orderMinus1 : BitVec 5)
  /-- `RESIDUAL_METHOD_0` (R253): 4-bit PARAM, escape 0xF; layout rule R106, method table rule R117; partition count 2^po rule R251. -/
  | residualMethod0 (po : BitVec 4)
  /-- `RESIDUAL_METHOD_1` (R253): 5-bit PARAM, escape 0x1F; layout rule R106, method table rule R117; partition count 2^po rule R251. -/
  | residualMethod1 (po : BitVec 4)
  /-- `RESIDUAL_METHOD_2` (R253): reserved: ProtocolError(P09); layout rule R106, method table rule R117; partition count 2^po rule R251. -/
  | residualMethod2
  /-- `RESIDUAL_METHOD_3` (R253): reserved: ProtocolError(P09); layout rule R106, method table rule R117; partition count 2^po rule R251. -/
  | residualMethod3
  /-- `PARAM4_RICE_K0` (R254): method 0, Rice parameter k = 0; layout rule R107. -/
  | param4RiceK0
  /-- `PARAM4_RICE_K1` (R254): method 0, Rice parameter k = 1; layout rule R107. -/
  | param4RiceK1
  /-- `PARAM4_RICE_K2` (R254): method 0, Rice parameter k = 2; layout rule R107. -/
  | param4RiceK2
  /-- `PARAM4_RICE_K3` (R254): method 0, Rice parameter k = 3; layout rule R107. -/
  | param4RiceK3
  /-- `PARAM4_RICE_K4` (R254): method 0, Rice parameter k = 4; layout rule R107. -/
  | param4RiceK4
  /-- `PARAM4_RICE_K5` (R254): method 0, Rice parameter k = 5; layout rule R107. -/
  | param4RiceK5
  /-- `PARAM4_RICE_K6` (R254): method 0, Rice parameter k = 6; layout rule R107. -/
  | param4RiceK6
  /-- `PARAM4_RICE_K7` (R254): method 0, Rice parameter k = 7; layout rule R107. -/
  | param4RiceK7
  /-- `PARAM4_RICE_K8` (R254): method 0, Rice parameter k = 8; layout rule R107. -/
  | param4RiceK8
  /-- `PARAM4_RICE_K9` (R254): method 0, Rice parameter k = 9; layout rule R107. -/
  | param4RiceK9
  /-- `PARAM4_RICE_K10` (R254): method 0, Rice parameter k = 10; layout rule R107. -/
  | param4RiceK10
  /-- `PARAM4_RICE_K11` (R254): method 0, Rice parameter k = 11; layout rule R107. -/
  | param4RiceK11
  /-- `PARAM4_RICE_K12` (R254): method 0, Rice parameter k = 12; layout rule R107. -/
  | param4RiceK12
  /-- `PARAM4_RICE_K13` (R254): method 0, Rice parameter k = 13; layout rule R107. -/
  | param4RiceK13
  /-- `PARAM4_RICE_K14` (R254): method 0, Rice parameter k = 14; layout rule R107. -/
  | param4RiceK14
  /-- `PARAM4_ESCAPE` (R256): method 0 escape; ESCAPE_WIDTH follows; layout rule R107. -/
  | param4Escape
  /-- `PARAM5_RICE_K0` (R254): method 1, Rice parameter k = 0; layout rule R107. -/
  | param5RiceK0
  /-- `PARAM5_RICE_K1` (R254): method 1, Rice parameter k = 1; layout rule R107. -/
  | param5RiceK1
  /-- `PARAM5_RICE_K2` (R254): method 1, Rice parameter k = 2; layout rule R107. -/
  | param5RiceK2
  /-- `PARAM5_RICE_K3` (R254): method 1, Rice parameter k = 3; layout rule R107. -/
  | param5RiceK3
  /-- `PARAM5_RICE_K4` (R254): method 1, Rice parameter k = 4; layout rule R107. -/
  | param5RiceK4
  /-- `PARAM5_RICE_K5` (R254): method 1, Rice parameter k = 5; layout rule R107. -/
  | param5RiceK5
  /-- `PARAM5_RICE_K6` (R254): method 1, Rice parameter k = 6; layout rule R107. -/
  | param5RiceK6
  /-- `PARAM5_RICE_K7` (R254): method 1, Rice parameter k = 7; layout rule R107. -/
  | param5RiceK7
  /-- `PARAM5_RICE_K8` (R254): method 1, Rice parameter k = 8; layout rule R107. -/
  | param5RiceK8
  /-- `PARAM5_RICE_K9` (R254): method 1, Rice parameter k = 9; layout rule R107. -/
  | param5RiceK9
  /-- `PARAM5_RICE_K10` (R254): method 1, Rice parameter k = 10; layout rule R107. -/
  | param5RiceK10
  /-- `PARAM5_RICE_K11` (R254): method 1, Rice parameter k = 11; layout rule R107. -/
  | param5RiceK11
  /-- `PARAM5_RICE_K12` (R254): method 1, Rice parameter k = 12; layout rule R107. -/
  | param5RiceK12
  /-- `PARAM5_RICE_K13` (R254): method 1, Rice parameter k = 13; layout rule R107. -/
  | param5RiceK13
  /-- `PARAM5_RICE_K14` (R254): method 1, Rice parameter k = 14; layout rule R107. -/
  | param5RiceK14
  /-- `PARAM5_RICE_K15` (R254): method 1, Rice parameter k = 15; layout rule R107. -/
  | param5RiceK15
  /-- `PARAM5_RICE_K16` (R254): method 1, Rice parameter k = 16; layout rule R107. -/
  | param5RiceK16
  /-- `PARAM5_RICE_K17` (R254): method 1, Rice parameter k = 17; layout rule R107. -/
  | param5RiceK17
  /-- `PARAM5_RICE_K18` (R254): method 1, Rice parameter k = 18; layout rule R107. -/
  | param5RiceK18
  /-- `PARAM5_RICE_K19` (R254): method 1, Rice parameter k = 19; layout rule R107. -/
  | param5RiceK19
  /-- `PARAM5_RICE_K20` (R254): method 1, Rice parameter k = 20; layout rule R107. -/
  | param5RiceK20
  /-- `PARAM5_RICE_K21` (R254): method 1, Rice parameter k = 21; layout rule R107. -/
  | param5RiceK21
  /-- `PARAM5_RICE_K22` (R254): method 1, Rice parameter k = 22; layout rule R107. -/
  | param5RiceK22
  /-- `PARAM5_RICE_K23` (R254): method 1, Rice parameter k = 23; layout rule R107. -/
  | param5RiceK23
  /-- `PARAM5_RICE_K24` (R254): method 1, Rice parameter k = 24; layout rule R107. -/
  | param5RiceK24
  /-- `PARAM5_RICE_K25` (R254): method 1, Rice parameter k = 25; layout rule R107. -/
  | param5RiceK25
  /-- `PARAM5_RICE_K26` (R254): method 1, Rice parameter k = 26; layout rule R107. -/
  | param5RiceK26
  /-- `PARAM5_RICE_K27` (R254): method 1, Rice parameter k = 27; layout rule R107. -/
  | param5RiceK27
  /-- `PARAM5_RICE_K28` (R254): method 1, Rice parameter k = 28; layout rule R107. -/
  | param5RiceK28
  /-- `PARAM5_RICE_K29` (R254): method 1, Rice parameter k = 29; layout rule R107. -/
  | param5RiceK29
  /-- `PARAM5_RICE_K30` (R254): method 1, Rice parameter k = 30; layout rule R107. -/
  | param5RiceK30
  /-- `PARAM5_ESCAPE` (R256): method 1 escape; ESCAPE_WIDTH follows; layout rule R107. -/
  | param5Escape
  /-- `ESCAPE_WIDTH` (R256): each residual of the partition is a signed field of bit_count bits; bit_count 0 gives residual 0 with no bit read. -/
  | escapeWidth (n : BitVec 5)
  /-- `RAW_RESIDUAL` (R256): escaped partition only. -/
  | rawResidual (width : Nat) (v : Int)
  /-- `RICE_WORD` (R254): u = (q << k) | r; signed value by the folded zig-zag of rule R255; layout rule R108. -/
  | riceWord (k : Nat) (q : Nat) (r : Nat)
  /-- `PADDING` (R275): content ignored; layout rule R109. -/
  | padding (width : Nat) (v : Nat)
  /-- `CRC16` (R275): read and discarded; layout rule R109. -/
  | crc16 (v : BitVec 16)
deriving DecidableEq, Repr

end Sys2Proof
end

