-- ==== Sys2Proof/WellFormed.lean ====
section
/-! DEFINITION. Which terms of `Instr` are instructions of the block: the range checks the constructors' types do not
make by themselves. A reserved code is a well-formed instruction: its effect is the exception the spec names. -/

namespace Sys2Proof

/-- `v` is the two's-complement reading of some `n`-bit field (R6, R131); a field of no bits reads as 0 (R131). -/
def fitsSigned (n : Nat) (v : Int) : Bool :=
  if n = 0 then v = 0 else -(2 ^ (n - 1) : Int) ≤ v && v < 2 ^ (n - 1)

/-- The operand ranges: reads of 0 to 64 bits (R130, R131), constants of 1 to 64 bits (R214), raw residuals of 0 to 31
bits (R256), Rice parameters 0 to 30 with a `k`-bit remainder (R254), 0 to 7 padding bits (R109). -/
def Instr.wellFormed : Instr → Bool
  | .decodeMarker => true
  | .decodeMetadata => true
  | .decodeAudio => true
  | .command3Unused => true
  | .getUint n => n ≤ Config.maxField
  | .getInt n => n ≤ Config.maxField
  | .getByte => true
  | .align => true
  | .clz8 _ => true
  | .eos => true
  | .getUnary => true
  | .skipBytes _ => true
  | .marker => true
  | .metaStreaminfo _ _ => true
  | .metaSkip6 _ _ _ => true
  | .metaSkip5 _ _ _ => true
  | .metaSkip4 _ _ _ => true
  | .metaSkip3 _ _ _ => true
  | .metaSkip2 _ _ _ => true
  | .metaSkip1 _ _ _ => true
  | .metaSkip0 _ _ => true
  | .streaminfoBody _ _ _ _ _ _ _ _ _ => true
  | .skippedBody _ => true
  | .framePreamble _ _ _ _ _ => true
  | .bsCode0 => true
  | .bsCode1 => true
  | .bsCode2 => true
  | .bsCode3 => true
  | .bsCode4 => true
  | .bsCode5 => true
  | .bsCode6 => true
  | .bsCode7 => true
  | .bsCode8 => true
  | .bsCode9 => true
  | .bsCode10 => true
  | .bsCode11 => true
  | .bsCode12 => true
  | .bsCode13 => true
  | .bsCode14 => true
  | .bsCode15 => true
  | .srCode0 => true
  | .srCode1 => true
  | .srCode2 => true
  | .srCode3 => true
  | .srCode4 => true
  | .srCode5 => true
  | .srCode6 => true
  | .srCode7 => true
  | .srCode8 => true
  | .srCode9 => true
  | .srCode10 => true
  | .srCode11 => true
  | .srCode12 => true
  | .srCode13 => true
  | .srCode14 => true
  | .srCode15 => true
  | .caCode0 => true
  | .caCode1 => true
  | .caCode2 => true
  | .caCode3 => true
  | .caCode4 => true
  | .caCode5 => true
  | .caCode6 => true
  | .caCode7 => true
  | .caCode8 => true
  | .caCode9 => true
  | .caCode10 => true
  | .caCode11 => true
  | .caCode12 => true
  | .caCode13 => true
  | .caCode14 => true
  | .caCode15 => true
  | .ssCode0 => true
  | .ssCode1 => true
  | .ssCode2 => true
  | .ssCode3 => true
  | .ssCode4 => true
  | .ssCode5 => true
  | .ssCode6 => true
  | .ssCode7 => true
  | .codedNumberK000 _ => true
  | .codedNumberK080 _ => true
  | .codedNumberK1C0 _ _ => true
  | .codedNumberK2E0 _ _ => true
  | .codedNumberK3F0 _ _ => true
  | .codedNumberK4F8 _ _ => true
  | .codedNumberK5FC _ _ => true
  | .codedNumberK6FE _ => true
  | .codedNumberK7FF _ => true
  | .blocksizeExt8 _ => true
  | .blocksizeExt16 _ => true
  | .rateExt8Khz _ => true
  | .rateExt16Hz _ => true
  | .rateExt16Dhz _ => true
  | .crc8 _ => true
  | .subframeConstant _ _ => true
  | .subframeVerbatim _ _ => true
  | .subframeReserved2To3 _ _ => true
  | .subframeReserved4To7 _ _ => true
  | .subframeFixed0 _ _ => true
  | .subframeFixed1 _ _ => true
  | .subframeFixed2 _ _ => true
  | .subframeFixed3 _ _ => true
  | .subframeFixed4 _ _ => true
  | .subframeReserved13 _ => true
  | .subframeReserved14To15 _ _ => true
  | .subframeReserved16To31 _ _ => true
  | .subframeLpc _ _ _ => true
  | .wastedUnary _ => true
  | .constantBody width v => 1 ≤ width && width ≤ Config.maxField && fitsSigned width v
  | .verbatimBody => true
  | .fixedBody _ => true
  | .lpcBody _ => true
  | .residualMethod0 _ => true
  | .residualMethod1 _ => true
  | .residualMethod2 => true
  | .residualMethod3 => true
  | .param4RiceK0 => true
  | .param4RiceK1 => true
  | .param4RiceK2 => true
  | .param4RiceK3 => true
  | .param4RiceK4 => true
  | .param4RiceK5 => true
  | .param4RiceK6 => true
  | .param4RiceK7 => true
  | .param4RiceK8 => true
  | .param4RiceK9 => true
  | .param4RiceK10 => true
  | .param4RiceK11 => true
  | .param4RiceK12 => true
  | .param4RiceK13 => true
  | .param4RiceK14 => true
  | .param4Escape => true
  | .param5RiceK0 => true
  | .param5RiceK1 => true
  | .param5RiceK2 => true
  | .param5RiceK3 => true
  | .param5RiceK4 => true
  | .param5RiceK5 => true
  | .param5RiceK6 => true
  | .param5RiceK7 => true
  | .param5RiceK8 => true
  | .param5RiceK9 => true
  | .param5RiceK10 => true
  | .param5RiceK11 => true
  | .param5RiceK12 => true
  | .param5RiceK13 => true
  | .param5RiceK14 => true
  | .param5RiceK15 => true
  | .param5RiceK16 => true
  | .param5RiceK17 => true
  | .param5RiceK18 => true
  | .param5RiceK19 => true
  | .param5RiceK20 => true
  | .param5RiceK21 => true
  | .param5RiceK22 => true
  | .param5RiceK23 => true
  | .param5RiceK24 => true
  | .param5RiceK25 => true
  | .param5RiceK26 => true
  | .param5RiceK27 => true
  | .param5RiceK28 => true
  | .param5RiceK29 => true
  | .param5RiceK30 => true
  | .param5Escape => true
  | .escapeWidth _ => true
  | .rawResidual width v => width ≤ 31 && fitsSigned width v
  | .riceWord k _ r => k ≤ 30 && r < 2 ^ k
  | .padding width v => width ≤ 7 && v < 2 ^ width
  | .crc16 _ => true

/-- The term is an instruction of the block. -/
abbrev Instr.WellFormed (i : Instr) : Prop := i.wellFormed = true

end Sys2Proof
end

