-- ==== Sys2Proof/Decode.lean ====
section
/-! DEFINITION. Bits of the stream and what they say: the bit order of R5, the decoder of one syntax element in its
context (R90 to R109), total on any bytes and rejecting by the spec's own fault, and the encoder written from the same
layouts. -/

namespace Sys2Proof

/-! ## Bits of a byte string (R5, R6, R61, R62) -/

/-- Stream bit position `p` is bit `7 − (p mod 8)` of byte `p / 8` (R5, R61). Behind the last byte there is no bit, and the
value 0 is the model's choice (DESIGN CHOICE, log entry 27); no element and no read takes such a bit (R77). -/
def bitAt (bytes : List Byte) (p : Nat) : Bool :=
  (bytes.getD (p / 8) 0).getLsbD (7 - p % 8)

/-- `MemRead(p, n)`: the `n`-bit field at position `p`, its first bit the most significant (R5, R7). -/
def memRead (bytes : List Byte) (p : Nat) : Nat → Nat
  | 0 => 0
  | n + 1 => 2 * memRead bytes p n + (bitAt bytes (p + n)).toNat

/-- `sext_n(v)`: the two's-complement reading of an `n`-bit pattern (R6); 0 for no bits (R131). -/
def sext (n v : Nat) : Int :=
  if n = 0 then 0 else if v < 2 ^ (n - 1) then (v : Int) else (v : Int) - 2 ^ n

/-- Zero bits from position `p` up to the first 1 bit, looking at `fuel` bits; `none` if they are all 0 (R101, R136). -/
def countZeros (bytes : List Byte) : Nat → Nat → Option Nat
  | 0, _ => none
  | fuel + 1, p => if bitAt bytes p then some 0 else (countZeros bytes fuel (p + 1)).map (· + 1)

/-- A byte string and a bit position in it: what the bit source has left to read. -/
structure BitSrc where
  bytes : List Byte
  pos : Nat
deriving DecidableEq, Repr

/-- `8·L`: the number of bits of the byte string. -/
def BitSrc.total (b : BitSrc) : Nat := 8 * b.bytes.length

/-- At least `n` bits remain (R77). -/
def BitSrc.has (b : BitSrc) (n : Nat) : Bool := b.pos + n ≤ b.total

/-- The `n`-bit unsigned field at bit offset `off` of the element that starts here. -/
def BitSrc.field (b : BitSrc) (off n : Nat) : Nat := memRead b.bytes (b.pos + off) n

/-- The one-bit field at bit offset `off`. -/
def BitSrc.flag (b : BitSrc) (off : Nat) : Bool := bitAt b.bytes (b.pos + off)

/-- The `n`-bit field at bit offset `off` as a bit pattern. -/
def BitSrc.bits (b : BitSrc) (off n : Nat) : BitVec n := BitVec.ofNat n (b.field off n)

/-- The unary count that starts here, `none` if the stream ends before its 1 bit (R136). -/
def BitSrc.unary (b : BitSrc) : Option Nat := countZeros b.bytes (b.total - b.pos) b.pos

/-! ## The faults a decoder reports (R291, R292) -/

/-- A fault that records no literal value. -/
def Raise.plain (c : Cause) : Raise := ⟨c, ⟨none, none⟩⟩

/-- A fault that records the value got. -/
def Raise.got (c : Cause) (v : Int) : Raise := ⟨c, ⟨some (.num v), none⟩⟩

/-- A fault that records the value got and the value expected, or the limit. -/
def Raise.gotOf (c : Cause) (v e : Int) : Raise := ⟨c, ⟨some (.num v), some (.num e)⟩⟩

/-- `ProtocolError(P11)`: a read needs more bits than the stream has left (R77). -/
def Raise.endOfStream : Raise := .plain .p11

/-- The code fields' faults, in the order of the fields (R180, R184). -/
def bsCodeFault (c : Nat) : Option Raise := if c = 0 then some (.got .p05 0) else none

/-- Sample-rate code 15 is reserved (R113). -/
def srCodeFault (c : Nat) : Option Raise := if c = 15 then some (.got .p06 15) else none

/-- Channel-assignment codes 11 to 15 are reserved, 2 to 7 have more than two channels (R115, R192). -/
def caCodeFault (c : Nat) : Option Raise :=
  if 11 ≤ c then some (.got .a03 c)
  else if 2 ≤ c && c ≤ 7 then some (.gotOf .a04 (c + 1) 2)
  else none

/-- Sample-size code 3 is reserved (R114). -/
def ssCodeFault (c : Nat) : Option Raise := if c = 3 then some (.got .p07 3) else none

/-- STREAMINFO's first check: `max_block_size > N` (R155). -/
def maxBlockFault (capacity maxBlock : Nat) : Option Raise :=
  if maxBlock > capacity then some (.gotOf .a02 maxBlock capacity) else none

/-- STREAMINFO's second check: a channel count above 2 (R155). -/
def channelCountFault (count : Nat) : Option Raise :=
  if count > 2 then some (.gotOf .a01 count 2) else none

/-- Subframe types 2 to 7 and 13 to 31 are reserved (R116). -/
def subframeReserved (type : Nat) : Bool := (2 ≤ type && type ≤ 7) || (13 ≤ type && type ≤ 31)

/-- The first violation, in stream order, of a PREAMBLE that is cut short or breaks a fixed bit (R180, R294). -/
def preambleViolation (b : BitSrc) : Raise :=
  if !b.has 14 then .endOfStream
  else if b.field 0 14 ≠ Config.sync then .gotOf .p02 (b.field 0 14) Config.sync
  else if !b.has 15 then .endOfStream
  else if b.flag 14 then .gotOf .p03 1 0
  else if !b.has 20 then .endOfStream
  else match bsCodeFault (b.field 16 4) with
  | some r => r
  | none =>
    if !b.has 24 then .endOfStream
    else match srCodeFault (b.field 20 4) with
    | some r => r
    | none =>
      if !b.has 28 then .endOfStream
      else match caCodeFault (b.field 24 4) with
      | some r => r
      | none =>
        if !b.has 31 then .endOfStream
        else match ssCodeFault (b.field 28 3) with
        | some r => r
        | none => if !b.has 32 then .endOfStream else .gotOf .p04 1 0

/-- The first violation, in stream order, of a STREAMINFO body that is cut short (R154, R155, R294). -/
def streaminfoViolation (capacity : Nat) (b : BitSrc) : Raise :=
  if !b.has 32 then .endOfStream
  else match maxBlockFault capacity (b.field 16 16) with
  | some r => r
  | none =>
    if !b.has 103 then .endOfStream
    else match channelCountFault (b.field 100 3 + 1) with
    | some r => r
    | none => .endOfStream

/-! ## The rows of each code table -/

/-- The row of a metadata type (R118, R92): type 0 is STREAMINFO, the others are split by their highest set bit. -/
def metaRow (last : Bool) (type : Nat) (length : BitVec 24) : Instr :=
  if type = 0 then .metaStreaminfo last length
  else if type < 2 then .metaSkip0 last length
  else if type < 4 then .metaSkip1 last (BitVec.ofNat 1 type) length
  else if type < 8 then .metaSkip2 last (BitVec.ofNat 2 type) length
  else if type < 16 then .metaSkip3 last (BitVec.ofNat 3 type) length
  else if type < 32 then .metaSkip4 last (BitVec.ofNat 4 type) length
  else if type < 64 then .metaSkip5 last (BitVec.ofNat 5 type) length
  else .metaSkip6 last (BitVec.ofNat 6 type) length

/-- The row of a blocksize code (R112). -/
def bsCodeRow (code : Nat) : Instr :=
  match code with
  | 0 => .bsCode0
  | 1 => .bsCode1
  | 2 => .bsCode2
  | 3 => .bsCode3
  | 4 => .bsCode4
  | 5 => .bsCode5
  | 6 => .bsCode6
  | 7 => .bsCode7
  | 8 => .bsCode8
  | 9 => .bsCode9
  | 10 => .bsCode10
  | 11 => .bsCode11
  | 12 => .bsCode12
  | 13 => .bsCode13
  | 14 => .bsCode14
  | _ => .bsCode15

/-- The row of a sample-rate code (R113). -/
def srCodeRow (code : Nat) : Instr :=
  match code with
  | 0 => .srCode0
  | 1 => .srCode1
  | 2 => .srCode2
  | 3 => .srCode3
  | 4 => .srCode4
  | 5 => .srCode5
  | 6 => .srCode6
  | 7 => .srCode7
  | 8 => .srCode8
  | 9 => .srCode9
  | 10 => .srCode10
  | 11 => .srCode11
  | 12 => .srCode12
  | 13 => .srCode13
  | 14 => .srCode14
  | _ => .srCode15

/-- The row of a channel-assignment code (R115). -/
def caCodeRow (code : Nat) : Instr :=
  match code with
  | 0 => .caCode0
  | 1 => .caCode1
  | 2 => .caCode2
  | 3 => .caCode3
  | 4 => .caCode4
  | 5 => .caCode5
  | 6 => .caCode6
  | 7 => .caCode7
  | 8 => .caCode8
  | 9 => .caCode9
  | 10 => .caCode10
  | 11 => .caCode11
  | 12 => .caCode12
  | 13 => .caCode13
  | 14 => .caCode14
  | _ => .caCode15

/-- The row of a sample-size code (R114). -/
def ssCodeRow (code : Nat) : Instr :=
  match code with
  | 0 => .ssCode0
  | 1 => .ssCode1
  | 2 => .ssCode2
  | 3 => .ssCode3
  | 4 => .ssCode4
  | 5 => .ssCode5
  | 6 => .ssCode6
  | _ => .ssCode7

/-- The row of a 4-bit residual parameter (R107). -/
def param4Row (code : Nat) : Instr :=
  match code with
  | 0 => .param4RiceK0
  | 1 => .param4RiceK1
  | 2 => .param4RiceK2
  | 3 => .param4RiceK3
  | 4 => .param4RiceK4
  | 5 => .param4RiceK5
  | 6 => .param4RiceK6
  | 7 => .param4RiceK7
  | 8 => .param4RiceK8
  | 9 => .param4RiceK9
  | 10 => .param4RiceK10
  | 11 => .param4RiceK11
  | 12 => .param4RiceK12
  | 13 => .param4RiceK13
  | 14 => .param4RiceK14
  | _ => .param4Escape

/-- The row of a 5-bit residual parameter (R107). -/
def param5Row (code : Nat) : Instr :=
  match code with
  | 0 => .param5RiceK0
  | 1 => .param5RiceK1
  | 2 => .param5RiceK2
  | 3 => .param5RiceK3
  | 4 => .param5RiceK4
  | 5 => .param5RiceK5
  | 6 => .param5RiceK6
  | 7 => .param5RiceK7
  | 8 => .param5RiceK8
  | 9 => .param5RiceK9
  | 10 => .param5RiceK10
  | 11 => .param5RiceK11
  | 12 => .param5RiceK12
  | 13 => .param5RiceK13
  | 14 => .param5RiceK14
  | 15 => .param5RiceK15
  | 16 => .param5RiceK16
  | 17 => .param5RiceK17
  | 18 => .param5RiceK18
  | 19 => .param5RiceK19
  | 20 => .param5RiceK20
  | 21 => .param5RiceK21
  | 22 => .param5RiceK22
  | 23 => .param5RiceK23
  | 24 => .param5RiceK24
  | 25 => .param5RiceK25
  | 26 => .param5RiceK26
  | 27 => .param5RiceK27
  | 28 => .param5RiceK28
  | 29 => .param5RiceK29
  | 30 => .param5RiceK30
  | _ => .param5Escape

/-- The row of a reserved subframe type (R116); its 7 bits end before the wasted-bits flag (R212). -/
def subframeReservedRow (zero : Bool) (type : Nat) : Instr :=
  if type < 4 then .subframeReserved2To3 zero (BitVec.ofNat 1 (type - 2))
  else if type < 8 then .subframeReserved4To7 zero (BitVec.ofNat 2 (type - 4))
  else if type < 14 then .subframeReserved13 zero
  else if type < 16 then .subframeReserved14To15 zero (BitVec.ofNat 1 (type - 14))
  else .subframeReserved16To31 zero (BitVec.ofNat 4 (type - 16))

/-- The row of a legal subframe type (R116). -/
def subframeRow (zero : Bool) (type : Nat) (wasted : Bool) : Instr :=
  if type = 0 then .subframeConstant zero wasted
  else if type = 1 then .subframeVerbatim zero wasted
  else if type = 8 then .subframeFixed0 zero wasted
  else if type = 9 then .subframeFixed1 zero wasted
  else if type = 10 then .subframeFixed2 zero wasted
  else if type = 11 then .subframeFixed3 zero wasted
  else if type = 12 then .subframeFixed4 zero wasted
  else .subframeLpc zero (BitVec.ofNat 5 (type - 32)) wasted

/-! ## The decoder -/

/-- What the earlier elements fixed about the next one (R121): the capacity, the metadata body's length, the sample
width, the predictor order, the Rice parameter and the escaped partition's width. -/
structure ElemCtx where
  capacity : Nat
  metaLength : BitVec 24
  bpsEff : Nat
  fixedOrder : Fin 5
  lpcOrderMinus1 : BitVec 5
  riceParam : Nat
  bitCount : Nat
deriving DecidableEq, Repr

/-- `i`, if its `n` bits are there; else P11. -/
def whole (n : Nat) (b : BitSrc) (i : Instr) : Except Raise Instr :=
  if b.has n then .ok i else .error .endOfStream

/-- R91: the marker, or P01 with the value read. -/
def decodeMarkerElem (b : BitSrc) : Except Raise Instr :=
  if !b.has 32 then .error .endOfStream
  else if b.field 0 32 = Config.marker then .ok .marker
  else .error (.gotOf .p01 (b.field 0 32) Config.marker)

/-- R95: the 32 bits with the sync code and both reserved bits right; else the first violation in stream order. -/
def decodePreamble (b : BitSrc) : Except Raise Instr :=
  if b.has 32 && b.field 0 14 = Config.sync && !b.flag 14 && !b.flag 31 then
    .ok (.framePreamble (b.flag 15) (b.bits 16 4) (b.bits 20 4) (b.bits 24 4) (b.bits 28 3))
  else .error (preambleViolation b)

/-- R93: the nine fields of the 272 bits; else the first violation in stream order. -/
def decodeStreaminfo (capacity : Nat) (b : BitSrc) : Except Raise Instr :=
  if b.has 272 then
    .ok (.streaminfoBody (b.bits 0 16) (b.bits 16 16) (b.bits 32 24) (b.bits 56 24) (b.bits 80 20) (b.bits 100 3)
      (b.bits 103 5) (b.bits 108 36) (b.bits 144 128))
  else .error (streaminfoViolation capacity b)

/-- R96: the first byte's leading ones fix how many bytes follow. -/
def decodeCodedNumber (b : BitSrc) : Except Raise Instr :=
  if !b.has 8 then .error .endOfStream
  else
    let first := b.field 0 8
    if first < 0x80 then .ok (.codedNumberK000 (b.bits 1 7))
    else if first < 0xC0 then .ok (.codedNumberK080 (b.bits 2 6))
    else if first < 0xE0 then whole 16 b (.codedNumberK1C0 (b.bits 3 5) (b.bits 8 8))
    else if first < 0xF0 then whole 24 b (.codedNumberK2E0 (b.bits 4 4) (b.bits 8 16))
    else if first < 0xF8 then whole 32 b (.codedNumberK3F0 (b.bits 5 3) (b.bits 8 24))
    else if first < 0xFC then whole 40 b (.codedNumberK4F8 (b.bits 6 2) (b.bits 8 32))
    else if first < 0xFE then whole 48 b (.codedNumberK5FC (b.bits 7 1) (b.bits 8 40))
    else if first < 0xFF then whole 56 b (.codedNumberK6FE (b.bits 8 48))
    else whole 64 b (.codedNumberK7FF (b.bits 8 56))

/-- R100: a reserved type is known after 7 bits, before the wasted-bits flag (R212). -/
def decodeSubframeHdr (b : BitSrc) : Except Raise Instr :=
  if !b.has 7 then .error .endOfStream
  else if subframeReserved (b.field 1 6) then .ok (subframeReservedRow (b.flag 0) (b.field 1 6))
  else whole 8 b (subframeRow (b.flag 0) (b.field 1 6) (b.flag 7))

/-- R106: a reserved method is known after 2 bits, before the partition order (R253). -/
def decodeResidualHdr (b : BitSrc) : Except Raise Instr :=
  if !b.has 2 then .error .endOfStream
  else if b.field 0 2 = 2 then .ok .residualMethod2
  else if b.field 0 2 = 3 then .ok .residualMethod3
  else if b.field 0 2 = 0 then whole 6 b (.residualMethod0 (b.bits 2 4))
  else whole 6 b (.residualMethod1 (b.bits 2 4))

/-- R101: a unary count. -/
def decodeWastedUnary (b : BitSrc) : Except Raise Instr :=
  match b.unary with
  | none => .error .endOfStream
  | some w => .ok (.wastedUnary w)

/-- R108: a unary count, then a `k`-bit remainder. -/
def decodeRiceWord (k : Nat) (b : BitSrc) : Except Raise Instr :=
  match b.unary with
  | none => .error .endOfStream
  | some q => whole (q + 1 + k) b (.riceWord k q (b.field (q + 1) k))

/-- The number of padding bits before the next byte boundary (R109, R133). -/
def padWidth (pos : Nat) : Nat := (8 - pos % 8) % 8

/-- The syntax element of kind `k` that starts at the bit source's position, or the fault that reading it raises. -/
def decodeElem (c : ElemCtx) (k : Kind) (b : BitSrc) : Except Raise Instr :=
  match k with
  | .marker => decodeMarkerElem b
  | .metaHdr => whole 32 b (metaRow (b.flag 0) (b.field 1 7) (b.bits 8 24))
  | .streaminfoBody => decodeStreaminfo c.capacity b
  | .skippedBody => whole (8 * c.metaLength.toNat) b (.skippedBody c.metaLength)
  | .framePreamble => decodePreamble b
  | .bsCode => whole 4 b (bsCodeRow (b.field 0 4))
  | .srCode => whole 4 b (srCodeRow (b.field 0 4))
  | .caCode => whole 4 b (caCodeRow (b.field 0 4))
  | .ssCode => whole 3 b (ssCodeRow (b.field 0 3))
  | .codedNumber => decodeCodedNumber b
  | .blocksizeExt8 => whole 8 b (.blocksizeExt8 (b.bits 0 8))
  | .blocksizeExt16 => whole 16 b (.blocksizeExt16 (b.bits 0 16))
  | .rateExt8Khz => whole 8 b (.rateExt8Khz (b.bits 0 8))
  | .rateExt16Hz => whole 16 b (.rateExt16Hz (b.bits 0 16))
  | .rateExt16Dhz => whole 16 b (.rateExt16Dhz (b.bits 0 16))
  | .crc8 => whole 8 b (.crc8 (b.bits 0 8))
  | .subframeHdr => decodeSubframeHdr b
  | .wastedUnary => decodeWastedUnary b
  | .constantBody => whole c.bpsEff b (.constantBody c.bpsEff (sext c.bpsEff (b.field 0 c.bpsEff)))
  | .verbatimBody => .ok .verbatimBody
  | .fixedBody => .ok (.fixedBody c.fixedOrder)
  | .lpcBody => .ok (.lpcBody c.lpcOrderMinus1)
  | .residualHdr => decodeResidualHdr b
  | .param4 => whole 4 b (param4Row (b.field 0 4))
  | .param5 => whole 5 b (param5Row (b.field 0 5))
  | .escapeWidth => whole 5 b (.escapeWidth (b.bits 0 5))
  | .rawResidual => whole c.bitCount b (.rawResidual c.bitCount (sext c.bitCount (b.field 0 c.bitCount)))
  | .riceWord => decodeRiceWord c.riceParam b
  | .padding => whole (padWidth b.pos) b (.padding (padWidth b.pos) (b.field 0 (padWidth b.pos)))
  | .crc16 => whole 16 b (.crc16 (b.bits 0 16))

/-- The command with a number of the 2-bit command port (R122). -/
def decodeCommand (n : BitVec 2) : Instr :=
  if n = 0 then .decodeMarker else if n = 1 then .decodeMetadata else if n = 2 then .decodeAudio else .command3Unused

/-- The instruction a bit-source call is. -/
def Primitive.instr : Primitive → Instr
  | .getUint n => .getUint n
  | .getInt n => .getInt n
  | .getByte => .getByte
  | .align => .align
  | .clz8 b => .clz8 b
  | .eos => .eos
  | .getUnary => .getUnary
  | .skipBytes n => .skipBytes n

/-! ## The encoder -/

/-- The `n` low bits of `v`, most significant first. -/
def bitsOf : Nat → Nat → List Bool
  | 0, _ => []
  | n + 1, v => v.testBit n :: bitsOf n v

/-- The `n`-bit two's-complement pattern of `v`. -/
def signedBits (n : Nat) (v : Int) : List Bool := bitsOf n (v % 2 ^ n).toNat

/-- `unary(q)`: `q` zero bits, then a 1 bit (R101). -/
def unaryBits (q : Nat) : List Bool := List.replicate q false ++ [true]

/-- The bits of an instruction, first bit first: for a syntax element its stream bits (R91 to R109; a reserved subframe
type or residual method ends where the fault is raised), for a command its number (R122). The model's choices (DESIGN
CHOICE, log entry 28): the content of a skipped body, which R94 leaves free, is written as zero bits; a bit-source call,
and a body row that is read part by part, has no bits of its own. -/
def encode : Instr → List Bool
  | .decodeMarker => bitsOf 2 0
  | .decodeMetadata => bitsOf 2 1
  | .decodeAudio => bitsOf 2 2
  | .command3Unused => bitsOf 2 3
  | .getUint _ => []
  | .getInt _ => []
  | .getByte => []
  | .align => []
  | .clz8 _ => []
  | .eos => []
  | .getUnary => []
  | .skipBytes _ => []
  | .marker => bitsOf 32 Config.marker
  | .metaStreaminfo last length => last :: bitsOf 7 0 ++ bitsOf 24 length.toNat
  | .metaSkip6 last low length => last :: bitsOf 7 (64 + low.toNat) ++ bitsOf 24 length.toNat
  | .metaSkip5 last low length => last :: bitsOf 7 (32 + low.toNat) ++ bitsOf 24 length.toNat
  | .metaSkip4 last low length => last :: bitsOf 7 (16 + low.toNat) ++ bitsOf 24 length.toNat
  | .metaSkip3 last low length => last :: bitsOf 7 (8 + low.toNat) ++ bitsOf 24 length.toNat
  | .metaSkip2 last low length => last :: bitsOf 7 (4 + low.toNat) ++ bitsOf 24 length.toNat
  | .metaSkip1 last low length => last :: bitsOf 7 (2 + low.toNat) ++ bitsOf 24 length.toNat
  | .metaSkip0 last length => last :: bitsOf 7 1 ++ bitsOf 24 length.toNat
  | .streaminfoBody minBlock maxBlock minFrame maxFrame rate channelsMinus1 bpsMinus1 total md5 => bitsOf 16 minBlock.toNat ++ bitsOf 16 maxBlock.toNat ++ bitsOf 24 minFrame.toNat ++ bitsOf 24 maxFrame.toNat ++ bitsOf 20 rate.toNat ++ bitsOf 3 channelsMinus1.toNat ++ bitsOf 5 bpsMinus1.toNat ++ bitsOf 36 total.toNat ++ bitsOf 128 md5.toNat
  | .skippedBody length => List.replicate (8 * length.toNat) false
  | .framePreamble strategy bs sr ca ss => bitsOf 14 Config.sync ++ false :: strategy :: bitsOf 4 bs.toNat ++ bitsOf 4 sr.toNat ++ bitsOf 4 ca.toNat ++ bitsOf 3 ss.toNat ++ [false]
  | .bsCode0 => bitsOf 4 0
  | .bsCode1 => bitsOf 4 1
  | .bsCode2 => bitsOf 4 2
  | .bsCode3 => bitsOf 4 3
  | .bsCode4 => bitsOf 4 4
  | .bsCode5 => bitsOf 4 5
  | .bsCode6 => bitsOf 4 6
  | .bsCode7 => bitsOf 4 7
  | .bsCode8 => bitsOf 4 8
  | .bsCode9 => bitsOf 4 9
  | .bsCode10 => bitsOf 4 10
  | .bsCode11 => bitsOf 4 11
  | .bsCode12 => bitsOf 4 12
  | .bsCode13 => bitsOf 4 13
  | .bsCode14 => bitsOf 4 14
  | .bsCode15 => bitsOf 4 15
  | .srCode0 => bitsOf 4 0
  | .srCode1 => bitsOf 4 1
  | .srCode2 => bitsOf 4 2
  | .srCode3 => bitsOf 4 3
  | .srCode4 => bitsOf 4 4
  | .srCode5 => bitsOf 4 5
  | .srCode6 => bitsOf 4 6
  | .srCode7 => bitsOf 4 7
  | .srCode8 => bitsOf 4 8
  | .srCode9 => bitsOf 4 9
  | .srCode10 => bitsOf 4 10
  | .srCode11 => bitsOf 4 11
  | .srCode12 => bitsOf 4 12
  | .srCode13 => bitsOf 4 13
  | .srCode14 => bitsOf 4 14
  | .srCode15 => bitsOf 4 15
  | .caCode0 => bitsOf 4 0
  | .caCode1 => bitsOf 4 1
  | .caCode2 => bitsOf 4 2
  | .caCode3 => bitsOf 4 3
  | .caCode4 => bitsOf 4 4
  | .caCode5 => bitsOf 4 5
  | .caCode6 => bitsOf 4 6
  | .caCode7 => bitsOf 4 7
  | .caCode8 => bitsOf 4 8
  | .caCode9 => bitsOf 4 9
  | .caCode10 => bitsOf 4 10
  | .caCode11 => bitsOf 4 11
  | .caCode12 => bitsOf 4 12
  | .caCode13 => bitsOf 4 13
  | .caCode14 => bitsOf 4 14
  | .caCode15 => bitsOf 4 15
  | .ssCode0 => bitsOf 3 0
  | .ssCode1 => bitsOf 3 1
  | .ssCode2 => bitsOf 3 2
  | .ssCode3 => bitsOf 3 3
  | .ssCode4 => bitsOf 3 4
  | .ssCode5 => bitsOf 3 5
  | .ssCode6 => bitsOf 3 6
  | .ssCode7 => bitsOf 3 7
  | .codedNumberK000 x => bitsOf 1 0b0 ++ bitsOf 7 x.toNat
  | .codedNumberK080 x => bitsOf 2 0b10 ++ bitsOf 6 x.toNat
  | .codedNumberK1C0 x following => bitsOf 3 0b110 ++ bitsOf 5 x.toNat ++ bitsOf 8 following.toNat
  | .codedNumberK2E0 x following => bitsOf 4 0b1110 ++ bitsOf 4 x.toNat ++ bitsOf 16 following.toNat
  | .codedNumberK3F0 x following => bitsOf 5 0b11110 ++ bitsOf 3 x.toNat ++ bitsOf 24 following.toNat
  | .codedNumberK4F8 x following => bitsOf 6 0b111110 ++ bitsOf 2 x.toNat ++ bitsOf 32 following.toNat
  | .codedNumberK5FC x following => bitsOf 7 0b1111110 ++ bitsOf 1 x.toNat ++ bitsOf 40 following.toNat
  | .codedNumberK6FE following => bitsOf 8 0b11111110 ++ bitsOf 48 following.toNat
  | .codedNumberK7FF following => bitsOf 8 0b11111111 ++ bitsOf 56 following.toNat
  | .blocksizeExt8 v => bitsOf 8 v.toNat
  | .blocksizeExt16 v => bitsOf 16 v.toNat
  | .rateExt8Khz v => bitsOf 8 v.toNat
  | .rateExt16Hz v => bitsOf 16 v.toNat
  | .rateExt16Dhz v => bitsOf 16 v.toNat
  | .crc8 v => bitsOf 8 v.toNat
  | .subframeConstant zero wasted => zero :: bitsOf 6 0 ++ [wasted]
  | .subframeVerbatim zero wasted => zero :: bitsOf 6 1 ++ [wasted]
  | .subframeReserved2To3 zero x => zero :: bitsOf 6 (2 + x.toNat)
  | .subframeReserved4To7 zero x => zero :: bitsOf 6 (4 + x.toNat)
  | .subframeFixed0 zero wasted => zero :: bitsOf 6 8 ++ [wasted]
  | .subframeFixed1 zero wasted => zero :: bitsOf 6 9 ++ [wasted]
  | .subframeFixed2 zero wasted => zero :: bitsOf 6 10 ++ [wasted]
  | .subframeFixed3 zero wasted => zero :: bitsOf 6 11 ++ [wasted]
  | .subframeFixed4 zero wasted => zero :: bitsOf 6 12 ++ [wasted]
  | .subframeReserved13 zero => zero :: bitsOf 6 13
  | .subframeReserved14To15 zero x => zero :: bitsOf 6 (14 + x.toNat)
  | .subframeReserved16To31 zero x => zero :: bitsOf 6 (16 + x.toNat)
  | .subframeLpc zero orderMinus1 wasted => zero :: bitsOf 6 (32 + orderMinus1.toNat) ++ [wasted]
  | .wastedUnary w => unaryBits w
  | .constantBody width v => signedBits width v
  | .verbatimBody => []
  | .fixedBody _ => []
  | .lpcBody _ => []
  | .residualMethod0 po => bitsOf 2 0 ++ bitsOf 4 po.toNat
  | .residualMethod1 po => bitsOf 2 1 ++ bitsOf 4 po.toNat
  | .residualMethod2 => bitsOf 2 2
  | .residualMethod3 => bitsOf 2 3
  | .param4RiceK0 => bitsOf 4 0
  | .param4RiceK1 => bitsOf 4 1
  | .param4RiceK2 => bitsOf 4 2
  | .param4RiceK3 => bitsOf 4 3
  | .param4RiceK4 => bitsOf 4 4
  | .param4RiceK5 => bitsOf 4 5
  | .param4RiceK6 => bitsOf 4 6
  | .param4RiceK7 => bitsOf 4 7
  | .param4RiceK8 => bitsOf 4 8
  | .param4RiceK9 => bitsOf 4 9
  | .param4RiceK10 => bitsOf 4 10
  | .param4RiceK11 => bitsOf 4 11
  | .param4RiceK12 => bitsOf 4 12
  | .param4RiceK13 => bitsOf 4 13
  | .param4RiceK14 => bitsOf 4 14
  | .param4Escape => bitsOf 4 15
  | .param5RiceK0 => bitsOf 5 0
  | .param5RiceK1 => bitsOf 5 1
  | .param5RiceK2 => bitsOf 5 2
  | .param5RiceK3 => bitsOf 5 3
  | .param5RiceK4 => bitsOf 5 4
  | .param5RiceK5 => bitsOf 5 5
  | .param5RiceK6 => bitsOf 5 6
  | .param5RiceK7 => bitsOf 5 7
  | .param5RiceK8 => bitsOf 5 8
  | .param5RiceK9 => bitsOf 5 9
  | .param5RiceK10 => bitsOf 5 10
  | .param5RiceK11 => bitsOf 5 11
  | .param5RiceK12 => bitsOf 5 12
  | .param5RiceK13 => bitsOf 5 13
  | .param5RiceK14 => bitsOf 5 14
  | .param5RiceK15 => bitsOf 5 15
  | .param5RiceK16 => bitsOf 5 16
  | .param5RiceK17 => bitsOf 5 17
  | .param5RiceK18 => bitsOf 5 18
  | .param5RiceK19 => bitsOf 5 19
  | .param5RiceK20 => bitsOf 5 20
  | .param5RiceK21 => bitsOf 5 21
  | .param5RiceK22 => bitsOf 5 22
  | .param5RiceK23 => bitsOf 5 23
  | .param5RiceK24 => bitsOf 5 24
  | .param5RiceK25 => bitsOf 5 25
  | .param5RiceK26 => bitsOf 5 26
  | .param5RiceK27 => bitsOf 5 27
  | .param5RiceK28 => bitsOf 5 28
  | .param5RiceK29 => bitsOf 5 29
  | .param5RiceK30 => bitsOf 5 30
  | .param5Escape => bitsOf 5 31
  | .escapeWidth n => bitsOf 5 n.toNat
  | .rawResidual width v => signedBits width v
  | .riceWord k q r => unaryBits q ++ bitsOf k r
  | .padding width v => bitsOf width v
  | .crc16 v => bitsOf 16 v.toNat

/-- The context in which an element's bits stand; `none` for commands and bit-source calls. -/
def Instr.kind? : Instr → Option Kind
  | .decodeMarker => none
  | .decodeMetadata => none
  | .decodeAudio => none
  | .command3Unused => none
  | .getUint _ => none
  | .getInt _ => none
  | .getByte => none
  | .align => none
  | .clz8 _ => none
  | .eos => none
  | .getUnary => none
  | .skipBytes _ => none
  | .marker => some .marker
  | .metaStreaminfo _ _ => some .metaHdr
  | .metaSkip6 _ _ _ => some .metaHdr
  | .metaSkip5 _ _ _ => some .metaHdr
  | .metaSkip4 _ _ _ => some .metaHdr
  | .metaSkip3 _ _ _ => some .metaHdr
  | .metaSkip2 _ _ _ => some .metaHdr
  | .metaSkip1 _ _ _ => some .metaHdr
  | .metaSkip0 _ _ => some .metaHdr
  | .streaminfoBody _ _ _ _ _ _ _ _ _ => some .streaminfoBody
  | .skippedBody _ => some .skippedBody
  | .framePreamble _ _ _ _ _ => some .framePreamble
  | .bsCode0 => some .bsCode
  | .bsCode1 => some .bsCode
  | .bsCode2 => some .bsCode
  | .bsCode3 => some .bsCode
  | .bsCode4 => some .bsCode
  | .bsCode5 => some .bsCode
  | .bsCode6 => some .bsCode
  | .bsCode7 => some .bsCode
  | .bsCode8 => some .bsCode
  | .bsCode9 => some .bsCode
  | .bsCode10 => some .bsCode
  | .bsCode11 => some .bsCode
  | .bsCode12 => some .bsCode
  | .bsCode13 => some .bsCode
  | .bsCode14 => some .bsCode
  | .bsCode15 => some .bsCode
  | .srCode0 => some .srCode
  | .srCode1 => some .srCode
  | .srCode2 => some .srCode
  | .srCode3 => some .srCode
  | .srCode4 => some .srCode
  | .srCode5 => some .srCode
  | .srCode6 => some .srCode
  | .srCode7 => some .srCode
  | .srCode8 => some .srCode
  | .srCode9 => some .srCode
  | .srCode10 => some .srCode
  | .srCode11 => some .srCode
  | .srCode12 => some .srCode
  | .srCode13 => some .srCode
  | .srCode14 => some .srCode
  | .srCode15 => some .srCode
  | .caCode0 => some .caCode
  | .caCode1 => some .caCode
  | .caCode2 => some .caCode
  | .caCode3 => some .caCode
  | .caCode4 => some .caCode
  | .caCode5 => some .caCode
  | .caCode6 => some .caCode
  | .caCode7 => some .caCode
  | .caCode8 => some .caCode
  | .caCode9 => some .caCode
  | .caCode10 => some .caCode
  | .caCode11 => some .caCode
  | .caCode12 => some .caCode
  | .caCode13 => some .caCode
  | .caCode14 => some .caCode
  | .caCode15 => some .caCode
  | .ssCode0 => some .ssCode
  | .ssCode1 => some .ssCode
  | .ssCode2 => some .ssCode
  | .ssCode3 => some .ssCode
  | .ssCode4 => some .ssCode
  | .ssCode5 => some .ssCode
  | .ssCode6 => some .ssCode
  | .ssCode7 => some .ssCode
  | .codedNumberK000 _ => some .codedNumber
  | .codedNumberK080 _ => some .codedNumber
  | .codedNumberK1C0 _ _ => some .codedNumber
  | .codedNumberK2E0 _ _ => some .codedNumber
  | .codedNumberK3F0 _ _ => some .codedNumber
  | .codedNumberK4F8 _ _ => some .codedNumber
  | .codedNumberK5FC _ _ => some .codedNumber
  | .codedNumberK6FE _ => some .codedNumber
  | .codedNumberK7FF _ => some .codedNumber
  | .blocksizeExt8 _ => some .blocksizeExt8
  | .blocksizeExt16 _ => some .blocksizeExt16
  | .rateExt8Khz _ => some .rateExt8Khz
  | .rateExt16Hz _ => some .rateExt16Hz
  | .rateExt16Dhz _ => some .rateExt16Dhz
  | .crc8 _ => some .crc8
  | .subframeConstant _ _ => some .subframeHdr
  | .subframeVerbatim _ _ => some .subframeHdr
  | .subframeReserved2To3 _ _ => some .subframeHdr
  | .subframeReserved4To7 _ _ => some .subframeHdr
  | .subframeFixed0 _ _ => some .subframeHdr
  | .subframeFixed1 _ _ => some .subframeHdr
  | .subframeFixed2 _ _ => some .subframeHdr
  | .subframeFixed3 _ _ => some .subframeHdr
  | .subframeFixed4 _ _ => some .subframeHdr
  | .subframeReserved13 _ => some .subframeHdr
  | .subframeReserved14To15 _ _ => some .subframeHdr
  | .subframeReserved16To31 _ _ => some .subframeHdr
  | .subframeLpc _ _ _ => some .subframeHdr
  | .wastedUnary _ => some .wastedUnary
  | .constantBody _ _ => some .constantBody
  | .verbatimBody => some .verbatimBody
  | .fixedBody _ => some .fixedBody
  | .lpcBody _ => some .lpcBody
  | .residualMethod0 _ => some .residualHdr
  | .residualMethod1 _ => some .residualHdr
  | .residualMethod2 => some .residualHdr
  | .residualMethod3 => some .residualHdr
  | .param4RiceK0 => some .param4
  | .param4RiceK1 => some .param4
  | .param4RiceK2 => some .param4
  | .param4RiceK3 => some .param4
  | .param4RiceK4 => some .param4
  | .param4RiceK5 => some .param4
  | .param4RiceK6 => some .param4
  | .param4RiceK7 => some .param4
  | .param4RiceK8 => some .param4
  | .param4RiceK9 => some .param4
  | .param4RiceK10 => some .param4
  | .param4RiceK11 => some .param4
  | .param4RiceK12 => some .param4
  | .param4RiceK13 => some .param4
  | .param4RiceK14 => some .param4
  | .param4Escape => some .param4
  | .param5RiceK0 => some .param5
  | .param5RiceK1 => some .param5
  | .param5RiceK2 => some .param5
  | .param5RiceK3 => some .param5
  | .param5RiceK4 => some .param5
  | .param5RiceK5 => some .param5
  | .param5RiceK6 => some .param5
  | .param5RiceK7 => some .param5
  | .param5RiceK8 => some .param5
  | .param5RiceK9 => some .param5
  | .param5RiceK10 => some .param5
  | .param5RiceK11 => some .param5
  | .param5RiceK12 => some .param5
  | .param5RiceK13 => some .param5
  | .param5RiceK14 => some .param5
  | .param5RiceK15 => some .param5
  | .param5RiceK16 => some .param5
  | .param5RiceK17 => some .param5
  | .param5RiceK18 => some .param5
  | .param5RiceK19 => some .param5
  | .param5RiceK20 => some .param5
  | .param5RiceK21 => some .param5
  | .param5RiceK22 => some .param5
  | .param5RiceK23 => some .param5
  | .param5RiceK24 => some .param5
  | .param5RiceK25 => some .param5
  | .param5RiceK26 => some .param5
  | .param5RiceK27 => some .param5
  | .param5RiceK28 => some .param5
  | .param5RiceK29 => some .param5
  | .param5RiceK30 => some .param5
  | .param5Escape => some .param5
  | .escapeWidth _ => some .escapeWidth
  | .rawResidual _ _ => some .rawResidual
  | .riceWord _ _ _ => some .riceWord
  | .padding _ _ => some .padding
  | .crc16 _ => some .crc16

/-! ## What it means that a stream holds an instruction -/

/-- The byte string holds the bits `bits` from position `pos` on. -/
def carries (bytes : List Byte) (pos : Nat) (bits : List Bool) : Prop :=
  pos + bits.length ≤ 8 * bytes.length ∧ ∀ i, i < bits.length → bitAt bytes (pos + i) = bits.getD i false

/-- The operands that the bits of the element do not fix are those the context gives (R121): a body's length, a field's
width, an order, a Rice parameter, the padding's width. Every other element has no such operand. -/
def Instr.agrees (c : ElemCtx) (pos : Nat) : Instr → Prop
  | .skippedBody length => c.metaLength = length
  | .constantBody width _ => c.bpsEff = width
  | .fixedBody order => c.fixedOrder = order
  | .lpcBody orderMinus1 => c.lpcOrderMinus1 = orderMinus1
  | .rawResidual width _ => c.bitCount = width
  | .riceWord k _ _ => c.riceParam = k
  | .padding width _ => padWidth pos = width
  | _ => True

/-! ## Bytes and bits -/

/-- The 8 bits of a byte, bit 7 first (R61). -/
def byteBits (b : Byte) : List Bool := bitsOf 8 b.toNat

/-- The bits of a byte string in stream order. -/
def bytesToBits (bytes : List Byte) : List Bool := bytes.flatMap byteBits

/-- The number with these bits, most significant first. -/
def bitsToNat (bits : List Bool) : Nat := bits.foldl (fun v b => 2 * v + b.toNat) 0

/-- Whole bytes from a list of bits, the last one filled up with zero bits. -/
def bitsToBytes : List Bool → List Byte
  | b7 :: b6 :: b5 :: b4 :: b3 :: b2 :: b1 :: b0 :: rest =>
    BitVec.ofNat 8 (bitsToNat [b7, b6, b5, b4, b3, b2, b1, b0]) :: bitsToBytes rest
  | [] => []
  | bits => [BitVec.ofNat 8 (bitsToNat (bits ++ List.replicate (8 - bits.length) false))]

/-- A byte string that reads as before up to bit `pos`, then as `bits`, then as 320 zero bits. -/
def putBits (bytes : List Byte) (pos : Nat) (bits : List Bool) : List Byte :=
  bitsToBytes ((bytesToBits bytes ++ List.replicate pos false).take pos ++ bits ++ List.replicate 320 false)

/-! ## A row of the opcode table without its context

A row of the table gives bits and no context, and the words of several rows coincide (the word 0 is a command, five
codes, two parameters and three headers). A word is therefore taken in the narrowest context whose width holds it:
log entry 4. -/

/-- Where a table word is placed: on the command port, or as an element of a kind with a width. -/
inductive TableSlot where
  | command (n : BitVec 2)
  | element (k : Kind) (width : Nat)
deriving DecidableEq, Repr

/-- The narrowest context that holds the word `w` of a row of `nbits` bits. -/
def tableSlot (nbits w : Nat) : Option TableSlot :=
  match nbits with
  | 2 => some (.command (BitVec.ofNat 2 w))
  | 3 => some (.element .ssCode 3)
  | 4 => some (.element .bsCode 4)
  | 5 => some (.element .param5 5)
  | 6 => some (.element .residualHdr 6)
  | 8 =>
    if w < 4 then some (.command (BitVec.ofNat 2 w))
    else if w < 8 then some (.element .ssCode 3)
    else if w < 16 then some (.element .bsCode 4)
    else if w < 32 then some (.element .param5 5)
    else if w < 64 then some (.element .residualHdr 6)
    else if w < 128 then some (.element .subframeHdr 8)
    else some (.element .codedNumber 8)
  | 16 => some (.element .blocksizeExt16 16)
  | 32 =>
    if w = Config.marker then some (.element .marker 32)
    else if w / 2 ^ 17 = 0x7FFC && w % 2 = 0 then some (.element .framePreamble 32)
    else some (.element .metaHdr 32)
  | 272 => some (.element .streaminfoBody 272)
  | _ => none

/-- The context of a word on its own: nothing was read before it, and the capacity is the default. -/
def ElemCtx.bare : ElemCtx := ⟨Config.defaultCapacity, 0, 0, 0, 0, 0, 0⟩

/-- The instruction the decoder reads from a table row's word. -/
def decodeTableWord (nbits w : Nat) : Option Instr :=
  match tableSlot nbits w with
  | none => none
  | some (.command n) => some (decodeCommand n)
  | some (.element k width) => (decodeElem .bare k ⟨putBits [] 0 (bitsOf width w), 0⟩).toOption

end Sys2Proof
end

