-- ==== Sys2Proof/Machine/State.lean ====
section
/-! DEFINITION. The state of the block (R20), the machine's own stops, and the state after reset (R35, R330). -/

namespace Sys2Proof.Machine

/-- Why the machine stops with a fault. The spec's own errors are no stops: they set the fault latch (R295). -/
inductive Fault where
  /-- Raised by the one operation that writes a sample cell when the index is not below `N`: the cell does not exist
  (R29, R68). No command reaches it (R68). Safe: the machine stops where the spec has no cell. -/
  | noSuchCell
deriving DecidableEq, Repr

/-- Why the machine refuses an instruction. -/
inductive Refusal where
  /-- Raised by an arm of `exec` that has no meaning yet. Safe. -/
  | notModelled (mnemonic : String)
  /-- Raised by `command_3_unused`: R122 calls the number 3 unused and gives it no effect. Safe. -/
  | unusedCommand
  /-- Raised by `get_uint(n)` and `get_int(n)` with `n > 64`: outside the operand range of R130, R131. Safe. -/
  | fieldTooWide
  /-- Raised by a construction with `N = 0`: outside the range `N ≥ 1` of R4. Safe. -/
  | zeroCapacity
  /-- Raised by the sequencer when it is handed an instruction that is no leaf of the stream grammar; no command
  reaches it, since the decoder of a leaf's context gives a leaf. Safe. -/
  | notALeaf
deriving DecidableEq, Repr

/-- The block. `stream` and `capacity` are the parameters of R4, fixed from reset on; `draw`, `sbFree`, `result` and
`port` are the model's own (log entries 1, 2, 3, 5); everything else is the state of R20. -/
structure State where
  /-- `STREAM` (R21). -/
  stream : List Byte
  /-- `N` (R4). -/
  capacity : Nat
  /-- How many draws were taken: the index of the next free value (the model's own). -/
  draw : Nat
  /-- `BITPOS` (R22). -/
  bitpos : Nat
  /-- `STATE` (R24). -/
  decState : DecState
  /-- `FAULT` (R25). -/
  fault : Bool
  /-- `FAULT_KIND` (R25). -/
  faultKind : FaultKind
  /-- `FAULT_CAUSE` (R25). -/
  faultCause : Cause
  /-- `FAULT_INFO` (R25). -/
  faultInfo : FaultInfo
  /-- `SI_*` (R26). -/
  si : StreamInfo
  /-- `SI_VALID` (R27). -/
  siValid : Bool
  /-- `F_BLOCKSIZE`, `F_RATE`, `F_CHASSIGN`, `F_NCH`, `F_BPS` (R28). -/
  fr : FrameRegs
  /-- `F_VALID` (R28). -/
  frValid : Bool
  /-- `SB[0][·]` (R29): the specified cells, indexes strictly rising. -/
  sb0 : List (Nat × Cell)
  /-- `SB[1][·]` (R29). -/
  sb1 : List (Nat × Cell)
  /-- The draw that the unspecified cells of `SB` take their values from (the model's own). -/
  sbFree : Nat
  /-- `COEF[0..31]` (R30). -/
  coef : Vector (BitVec 16) 32
  /-- `LPC_PREC` (R30). -/
  lpcPrec : BitVec 5
  /-- `LPC_SHIFT` (R30), two's complement. -/
  lpcShift : BitVec 5
  /-- The working registers of R31 and the commands' local variables. -/
  work : Work
  /-- What the last bit-source call returned (the model's own). -/
  result : Int
  /-- The requests not yet served, the next one first (the model's own). -/
  port : List Request
deriving DecidableEq, Repr

/-- The value the model names for `SI_*` at reset (R35 gives none). DESIGN CHOICE, unsafe: log entry 6. -/
def StreamInfo.atReset : StreamInfo := ⟨0, 0, 0, 0, 0, 0, 0, 0⟩

/-- The value the model names for `F_*` at reset (R35 gives none). DESIGN CHOICE, unsafe: log entry 6. -/
def FrameRegs.atReset : FrameRegs := ⟨0, 0, 0, 0, 0⟩

/-- The value the model names for the working registers at reset (R35 gives none). DESIGN CHOICE: log entry 6. -/
def Work.atReset : Work where
  metaLast := false
  metaType := 0
  metaLength := 0
  bsCode := 0
  srCode := 0
  caCode := 0
  ssCode := 0
  blocksize := 0
  rate := 0
  nch := 0
  bps := 0
  ch := 0
  bpsEff := 0
  w := 0
  type := 0
  wastedFlag := false
  order := 0
  method := 0
  po := 0
  pcount := 0
  psize := 0
  param := 0
  escaped := false
  bitCount := 0
  index := 0

/-- Reset is construction with a stream and a capacity (R330, R35): `STATE = INIT`, `BITPOS = 0`, `FAULT = 0`,
`SI_VALID = 0`, `F_VALID = 0`, no sample cell specified. -/
def State.construct (stream : List Byte) (capacity : Nat) : State where
  stream := stream
  capacity := capacity
  draw := 1
  bitpos := 0
  decState := .init
  fault := false
  faultKind := .protocolError
  faultCause := .p01
  faultInfo := ⟨none, none⟩
  si := StreamInfo.atReset
  siValid := false
  fr := FrameRegs.atReset
  frValid := false
  sb0 := []
  sb1 := []
  sbFree := 0
  coef := Vector.replicate 32 0
  lpcPrec := 0
  lpcShift := 0
  work := Work.atReset
  result := 0
  port := []

/-- The block right after reset with an empty stream and the default capacity (R330, R4): the stream and the commands
are the host's to supply (log entry 2). -/
def State.reset : State := .construct [] Config.defaultCapacity

end Sys2Proof.Machine
end

