-- ==== Sys2Proof/Machine/Flags.lean ====
section
/-! DEFINITION. The status bits (R32) and the predicates that guard: legal commands (R150), end of stream (R76), the
64-bit range (R226), the fault kinds (R291, R292). The block has no arithmetic condition codes. -/

namespace Sys2Proof.Machine

/-- `ProtocolError` for P01 to P14, `AssertionError` for A01 to A07 (R291, R292). -/
def causeKind : Cause → FaultKind
  | .p01 | .p02 | .p03 | .p04 | .p05 | .p06 | .p07 | .p08 | .p09 | .p10 | .p11 | .p12 | .p13 | .p14 => .protocolError
  | .a01 | .a02 | .a03 | .a04 | .a05 | .a06 | .a07 => .assertionError

/-- The order `INIT < HAS_MARKER < HAS_METADATA < COMPLETE` and its 2-bit encoding (R24). -/
def decStateNumber : DecState → Nat
  | .init => 0
  | .hasMarker => 1
  | .hasMetadata => 2
  | .complete => 3

/-- The command is accepted in the decoder state (R150). -/
def legal : Command → DecState → Bool
  | .decodeMarker, d => d = .init
  | .decodeMetadata, d => d = .hasMarker
  | .decodeAudio, d => d = .hasMetadata || d = .complete

/-- `8·L` (R22). -/
def State.bitLength (s : State) : Nat := 8 * s.stream.length

/-- `eos()`: `BITPOS = 8·L` (R76, R135). -/
def State.eos (s : State) : Bool := s.bitpos = s.bitLength

/-- The octet the bit source holds, a function of `BITPOS` and `STREAM` (R23). At `BITPOS = 8·L` the rule's formula names
no byte, and the value 0 is the model's choice (DESIGN CHOICE, log entry 27); no meaning reads it. -/
def State.currentOctet (s : State) : Byte := s.stream.getD (s.bitpos / 8) 0

/-- The count of that octet's bits not yet consumed (R23). -/
def State.octetBitsLeft (s : State) : Nat := padWidth s.bitpos

/-- `v` lies in the 64-bit signed range (R6, R226). -/
def inRange64 (v : Int) : Bool := -2 ^ 63 ≤ v && v ≤ 2 ^ 63 - 1

/-- `F_VALID` as it reads: 0 while a fault is latched (R295). -/
def State.frValidRead (s : State) : Bool := s.frValid && !s.fault

/-- The host may read `SI_*` (R33). -/
def State.siReadable (s : State) : Bool :=
  !s.fault && 2 ≤ decStateNumber s.decState && s.siValid

/-- The host may read `F_BLOCKSIZE`, `F_RATE`, `F_NCH` and the active cells of `SB` (R33). -/
def State.frameReadable (s : State) : Bool := !s.fault && s.frValid

end Sys2Proof.Machine
end

