-- ==== Sys2Proof/Machine/Operands.lean ====
section
/-! DEFINITION. How field values become operands (R110): the code tables (R112 to R116), the sample width (R211), the
predictor constants (R219), the folded zig-zag (R255) and the integer functions of R6. -/

namespace Sys2Proof.Machine

/-- `clz8(b)` (R134). -/
def clz8 (b : Nat) : Nat := if b = 0 then 8 else 7 - Nat.log2 b

/-- Bytes that follow the first byte `b` of a coded number: `max(0, clz8(~b) − 1)` (R96, R186). -/
def followingBytes (b : Nat) : Nat := clz8 (255 - b) - 1

/-- What a blocksize code gives (R112): a fixed number of samples, or an extension of a number of bits, plus 1. -/
inductive BlocksizeOperand where
  | samples (n : Nat)
  | extension (width : Nat)
deriving DecidableEq, Repr

/-- R112, rows 1 to 15. -/
def blocksizeOf (c : Nat) : BlocksizeOperand :=
  if c = 1 then .samples 192
  else if c ≤ 5 then .samples (144 * 2 ^ c)
  else if c = 6 then .extension 8
  else if c = 7 then .extension 16
  else .samples (256 * 2 ^ (c - 8))

/-- What a sample-rate code gives (R113). -/
inductive RateOperand where
  | streaminfo
  | hertz (n : Nat)
  | extension (width scale : Nat)
deriving DecidableEq, Repr

/-- R113, rows 0 to 14. -/
def rateOf (c : Nat) : RateOperand :=
  match c with
  | 0 => .streaminfo
  | 1 => .hertz 88200
  | 2 => .hertz 176400
  | 3 => .hertz 192000
  | 4 => .hertz 8000
  | 5 => .hertz 16000
  | 6 => .hertz 22050
  | 7 => .hertz 24000
  | 8 => .hertz 32000
  | 9 => .hertz 44100
  | 10 => .hertz 48000
  | 11 => .hertz 96000
  | 12 => .extension 8 1000
  | 13 => .extension 16 1
  | _ => .extension 16 10

/-- What a sample-size code gives (R114): `none` is `SI_BPS`. -/
def sampleSizeOf (c : Nat) : Option Nat :=
  match c with
  | 0 => none
  | 1 => some 8
  | 2 => some 12
  | 4 => some 16
  | 5 => some 20
  | 6 => some 24
  | _ => some 32

/-- The number of channels of a legal channel-assignment code (R115, R180). -/
def channelsOf (c : Nat) : Nat := if c = 0 then 1 else 2

/-- `side_extra(ca, ch)` (R211). -/
def sideExtra (ca ch : Nat) : Nat :=
  if (ca = 8 && ch = 1) || (ca = 9 && ch = 0) || (ca = 10 && ch = 1) then 1 else 0

/-- The predictor order of a subframe type (R116). For the types without a predictor the spec names no order, and 0 is the
model's choice, as is writing the register `order` at the header (DESIGN CHOICE, log entry 29). -/
def predictorOrder (type : Nat) : Nat :=
  if 8 ≤ type && type ≤ 12 then type - 8 else if 32 ≤ type then type - 31 else 0

/-- `FIXED_COEF[order]` (R219). -/
def fixedCoef : Fin 5 → List Int
  | 0 => []
  | 1 => [1]
  | 2 => [2, -1]
  | 3 => [3, -3, 1]
  | 4 => [4, -6, 4, -1]

/-- The folded zig-zag from the naturals to the integers (R255). -/
def zigzag (u : Nat) : Int := if u % 2 = 0 then ((u / 2 : Nat) : Int) else -(((u - 1) / 2 : Nat) : Int) - 1

/-- The zig-zag's inverse (R255). -/
def zigzagInv (v : Int) : Nat := if 0 ≤ v then (2 * v).toNat else (-2 * v - 1).toNat

/-- `asr(v, s) = floor(v / 2^s)` (R6, R225). -/
def asr (v : Int) (s : Nat) : Int := v / 2 ^ s

/-- `shl(v, s) = v · 2^s` (R6). -/
def shl (v : Int) (s : Nat) : Int := v * 2 ^ s

/-- `i64(v)`, `none` standing for A06 (R6, R226). -/
def i64 (v : Int) : Option Int := if inRange64 v then some v else none

end Sys2Proof.Machine
end

