-- ==== Sys2Proof/Machine/Ops.lean ====
section
/-! DEFINITION. The named operations over the state: sequencing, the fault latch, the bit source, the sample buffer,
the STREAMINFO reads, the guards of a command, and construction. -/

namespace Sys2Proof.Machine

/-- What a meaning answers. -/
abbrev Out := Host.Outcome State Fault Refusal

/-! ## Sequencing (R7) -/

/-- The next statement of the pseudocode, unless the one before ended the command with a fault (R295 item 1) or the
machine stopped. -/
def seq (o : Out) (f : State → Out) : Out :=
  match o with
  | .next s => if s.fault then .next s else f s
  | .fault r => .fault r
  | .refused r => .refused r

/-- `for i in [start, start + count)`: ascending, nothing for a count of 0 (R7). -/
def forRange : Nat → Nat → (Nat → State → Out) → State → Out
  | 0, _, _, s => .next s
  | count + 1, start, f, s => seq (f start s) (forRange count (start + 1) f)

/-! ## The fault latch (R25, R295, R296) -/

/-- `FAULT`, `FAULT_KIND`, `FAULT_CAUSE` and `FAULT_INFO` written, nothing else. -/
def State.latch (s : State) (r : Raise) : State :=
  { s with fault := true, faultKind := causeKind r.cause, faultCause := r.cause, faultInfo := r.info }

/-- The coefficient file with every slot unspecified (R30). -/
def freeCoefFile (k : Nat) : Vector (BitVec 16) 32 := Vector.ofFn fun j => Config.freeCoef k j.val

/-- Everything R295 (4) calls unspecified after a fault takes a fresh free value; `F_VALID` reads 0; `STATE`, `STREAM`
and `N` stay. `BITPOS` keeps its bound (R22). -/
def State.scramble (s : State) : State :=
  { s with
    bitpos := Config.freeBitpos s.draw % (s.bitLength + 1)
    si := Config.freeStreamInfo s.draw
    siValid := Config.freeSiValid s.draw
    fr := Config.freeFrameRegs s.draw
    frValid := false
    sb0 := []
    sb1 := []
    sbFree := s.draw
    coef := freeCoefFile s.draw
    lpcPrec := Config.freeLpcPrec s.draw
    lpcShift := Config.freeLpcShift s.draw
    work := Config.freeWork s.draw
    draw := s.draw + 1 }

/-- `raise`: fault entry (R295). There is no handler and no return: the latch stays until construction (R296). -/
def raise (r : Raise) (s : State) : Out := .next (s.scramble.latch r)

/-- The fault entry of A07, which changes nothing but the latch (R150). -/
def raiseIllegal (c : Command) (s : State) : Out :=
  .next (s.latch ⟨.a07, ⟨some (.cmd c), some (.st s.decState)⟩⟩)

/-- While a fault is latched an instruction consumes nothing and changes nothing (R161, R296). -/
def live (s : State) (f : State → Out) : Out := if s.fault then .next s else f s

/-- The only way out of a fault: construction with a new stream and capacity, the requests of the host waiting
(R330, R296). -/
def reconstruct (stream : List Byte) (capacity : Nat) (s : State) : Out :=
  if capacity = 0 then .refused .zeroCapacity
  else .next { State.construct stream capacity with port := s.port }

/-! ## Single registers -/

/-- `BITPOS <- p`. -/
def State.setBitpos (s : State) (p : Nat) : State := { s with bitpos := p }

/-- `STATE <- d`. -/
def State.setDecState (s : State) (d : DecState) : State := { s with decState := d }

/-- `F_VALID <- b`. -/
def State.setFrValid (s : State) (b : Bool) : State := { s with frValid := b }

/-- The `SI_*` group written from a parsed body, `SI_VALID <- 1` (R154). -/
def State.setStreamInfo (s : State) (i : StreamInfo) : State := { s with si := i, siValid := true }

/-- The `F_*` group (R193). -/
def State.setFrameRegs (s : State) (f : FrameRegs) : State := { s with fr := f }

/-- The working registers. -/
def State.setWork (s : State) (w : Work) : State := { s with work := w }

/-- The value a bit-source call returns. -/
def State.setResult (s : State) (v : Int) : State := { s with result := v }

/-- The requests that wait. -/
def State.setPort (s : State) (p : List Request) : State := { s with port := p }

/-- `LPC_PREC <- precision` (R220). -/
def State.setLpcPrec (s : State) (p : Nat) : State := { s with lpcPrec := BitVec.ofNat 5 p }

/-- `LPC_SHIFT <- shift` (R220). -/
def State.setLpcShift (s : State) (v : Int) : State := { s with lpcShift := BitVec.ofInt 5 v }

/-- `COEF[j] <- v` (R30). -/
def State.setCoef (s : State) (j : Nat) (v : Int) : State :=
  { s with coef := s.coef.setIfInBounds j (BitVec.ofInt 16 v) }

/-- `COEF[0 .. order − 1]` as integers (R220). -/
def State.coefs (s : State) (order : Nat) : List Int := (s.coef.toList.take order).map BitVec.toInt

/-! ## The bit source (R130 to R137) -/

/-- What the bit source has left. -/
def State.src (s : State) : BitSrc := ⟨s.stream, s.bitpos⟩

/-- Consume `n` bits, or P11 (R77). -/
def consume (n : Nat) (s : State) (f : State → Out) : Out :=
  if s.bitpos + n ≤ s.bitLength then f (s.setBitpos (s.bitpos + n)) else raise .endOfStream s

/-- `get_uint(n)` (R130): no bit for `n = 0`, which never faults. -/
def withUint (n : Nat) (s : State) (f : Nat → State → Out) : Out :=
  if n = 0 then f 0 s else consume n s (f (memRead s.stream s.bitpos n))

/-- `get_int(n)` (R131). -/
def withInt (n : Nat) (s : State) (f : Int → State → Out) : Out :=
  withUint n s fun v => f (sext n v)

/-- `get_unary()` (R136). -/
def withUnary (s : State) (f : Nat → State → Out) : Out :=
  match s.src.unary with
  | none => raise .endOfStream s
  | some q => consume (q + 1) s (f q)

/-- `skip_bytes(n)` (R137): `n` octets, or P11 at the first that is not whole. -/
def skipBytes (n : Nat) (s : State) : Out := consume (8 * n) s .next

/-- `align()` (R133). -/
def State.align (s : State) : State := s.setBitpos (s.bitpos + padWidth s.bitpos)

/-- A syntax element of `n` bits: nothing while a fault is latched, P11 if the bits are not there, else its effect
after they are consumed. -/
def element (n : Nat) (s : State) (f : State → Out) : Out := live s fun s => consume n s f

/-! ## The sample buffer (R29)

A channel is a list of (index, cell) pairs with indexes strictly rising; a cell that is not listed is unspecified and
reads as a free value. -/

/-- The canonical form of a channel: indexes strictly rising and below `N`. -/
def channelWf (capacity : Nat) (m : List (Nat × Cell)) : Bool :=
  m.all (fun e => e.1 < capacity) && decide (m.Pairwise (fun a b => a.1 < b.1))

/-- Both channels have the canonical form (log entry 7). -/
def Memory.wf (s : State) : Bool := channelWf s.capacity s.sb0 && channelWf s.capacity s.sb1

/-- The cell listed at an index. -/
def lookupCell (i : Nat) : List (Nat × Cell) → Option Cell
  | [] => none
  | (j, v) :: rest => if j = i then some v else lookupCell i rest

/-- The list with the cell at an index set, the form kept. -/
def insertCell (i : Nat) (v : Cell) : List (Nat × Cell) → List (Nat × Cell)
  | [] => [(i, v)]
  | (j, u) :: rest =>
    if j < i then (j, u) :: insertCell i v rest
    else if j = i then (i, v) :: rest
    else (i, v) :: (j, u) :: rest

/-- The cells of channel `c`, a number 0 or 1 (R29). Every other `c` addresses channel 1: R29 has no such channel, so this
is the model's choice (DESIGN CHOICE, log entry 26). -/
def State.channel (s : State) (c : Nat) : List (Nat × Cell) := if c = 0 then s.sb0 else s.sb1

/-- `SB[c][i]` (R29): the cell listed there, else the free value of an unspecified cell. -/
def State.cell (s : State) (c i : Nat) : Cell := (lookupCell i (s.channel c)).getD (Config.freeCell s.sbFree c i)

/-- `SB[c][i]` as the integer it holds (R224). -/
def State.sample (s : State) (c i : Nat) : Int := (s.cell c i).toInt

/-- The cells of channel `c` replaced; a number other than 0 and 1 addresses channel 1, as in `State.channel` (DESIGN
CHOICE, log entry 26). -/
def State.setChannel (s : State) (c : Nat) (m : List (Nat × Cell)) : State :=
  if c = 0 then { s with sb0 := m } else { s with sb1 := m }

/-- `SB[c][i] <- v` (R7), `v` in 64-bit range; an index that is not below `N` has no cell (log entry 14). Of a `v` outside
that range, which only a field wider than 64 bits gives, the cell takes the low 64 bits (DESIGN CHOICE, log entry 31). -/
def writeSample (c i : Nat) (v : Int) (s : State) : Out :=
  if i < s.capacity then .next (s.setChannel c (insertCell i (BitVec.ofInt 64 v) (s.channel c)))
  else .fault .noSuchCell

/-- `SB[c][i] <- i64(v)`: A06 outside the 64-bit range (R226). -/
def writeI64 (c i : Nat) (v : Int) (s : State) : Out :=
  match i64 v with
  | none => raise (.plain .a06) s
  | some v => writeSample c i v s

/-- `x[i]`, a cell of the channel being decoded (R7). -/
def State.x (s : State) (i : Nat) : Int := s.sample s.work.ch i

/-- `x[i] <- v` (R7). -/
def writeX (i : Nat) (v : Int) (s : State) : Out := writeSample s.work.ch i v s

/-- `x[i] <- i64(v)`. -/
def writeXI64 (i : Nat) (v : Int) (s : State) : Out := writeI64 s.work.ch i v s

/-- Every cell unspecified: what a frame starts from, since cells outside its active region are unspecified after it
and none is read before it is written (R29, R159). -/
def State.clearSamples (s : State) : State :=
  { s with sb0 := [], sb1 := [], sbFree := s.draw, draw := s.draw + 1 }

/-- `blocksize`, that is `F_BLOCKSIZE` (section 43, R210). -/
def State.blocksize (s : State) : Nat := s.fr.blocksize.toNat

/-! ## STREAMINFO reads by the frame header (R27) -/

/-- `SI_RATE` as the frame header reads it (R188): a draw while `SI_VALID = 0` (R27). -/
def withSiRate (s : State) (f : BitVec 20 → State → Out) : Out :=
  if s.siValid then f s.si.rate s
  else f (Config.freeStreamInfo s.draw).rate { s with draw := s.draw + 1 }

/-- `SI_BPS` as the frame header reads it (R191): a draw while `SI_VALID = 0` (R27). -/
def withSiBps (s : State) (f : BitVec 6 → State → Out) : Out :=
  if s.siValid then f s.si.bps s
  else f (Config.freeStreamInfo s.draw).bps { s with draw := s.draw + 1 }

/-! ## Commands (R150, R161) -/

/-- Dispatch of a command: the latched fault again, A07 in a state where it is not legal, else the command. -/
def command (c : Command) (s : State) (f : State → Out) : Out :=
  live s fun s => if legal c s.decState then f s else raiseIllegal c s

/-- The return of a command with `OK`: `COEF`, `LPC_PREC`, `LPC_SHIFT` are unspecified (R30) and the working registers
carry nothing on (R31). -/
def State.finish (s : State) : State :=
  { s with
    coef := freeCoefFile s.draw
    lpcPrec := Config.freeLpcPrec s.draw
    lpcShift := Config.freeLpcShift s.draw
    work := Config.freeWork s.draw
    draw := s.draw + 1 }

/-- The outcome of a command as the host sees it (R9, R295): `none` is `OK`, else the latched kind, cause and info. -/
def State.outcome (s : State) : Option (FaultKind × Cause × FaultInfo) :=
  if s.fault then some (s.faultKind, s.faultCause, s.faultInfo) else none

/-! ## The context of the next element (R121) -/

/-- What the registers say about the next element. The two orders are those of R104 and R105 for the types 8 to 12 and 32
to 63; for any other `type`, which only a body demanded on the port can meet, they are `(type − 8) mod 5` and
`(type − 32) mod 32` with the differences cut off at 0, the model's choice (DESIGN CHOICE, log entry 30). -/
def State.elemCtx (s : State) : ElemCtx where
  capacity := s.capacity
  metaLength := s.work.metaLength
  bpsEff := s.work.bpsEff
  fixedOrder := Fin.ofNat 5 (s.work.type - 8)
  lpcOrderMinus1 := BitVec.ofNat 5 (s.work.type - 32)
  riceParam := s.work.param
  bitCount := s.work.bitCount

/-- The element of kind `k` at `BITPOS`, or the fault that reading it raises. -/
def State.decodeAt (s : State) (k : Kind) : Except Raise Instr := decodeElem s.elemCtx k s.src

/-- The instruction a request stands for: the command of its number, the bit-source call, or the element at `BITPOS`;
`construct` is served by `step` itself and stands for the unused number here. -/
def fetchRequest (s : State) (r : Request) : Except Raise Instr :=
  match r with
  | .command n => .ok (decodeCommand n)
  | .bitSource p => .ok p.instr
  | .element k => s.decodeAt k
  | .construct _ _ => .ok .command3Unused

/-! ## Placing a table row's word where the next step fetches -/

/-- The state in which the next request is the word `w` of a row of `nbits` bits: a command on the port, or an element
whose bits stand at `BITPOS` with zero bits after them. -/
def placeWord (s : State) (nbits w : Nat) : State :=
  match tableSlot nbits w with
  | none => s
  | some (.command n) => { s with port := .command n :: s.port }
  | some (.element k width) =>
    { s with stream := putBits s.stream s.bitpos (bitsOf width w), port := .element k :: s.port }

end Sys2Proof.Machine
end

