-- ==== Sys2Proof/Machine/BitSource.lean ====
section
/-! DEFINITION. The bit-source operations as instructions (R130 to R137). What such a call returns goes to `result`
(log entry 5); none of them writes a flag. -/

namespace Sys2Proof.Machine

/-- `get_uint(n)` (R130). -/
def execGetUint (n : Nat) (s : State) : Out :=
  live s fun s =>
    if n ≤ Config.maxField then withUint n s fun v s => .next (s.setResult v) else .refused .fieldTooWide

/-- `get_int(n)` (R131). -/
def execGetInt (n : Nat) (s : State) : Out :=
  live s fun s =>
    if n ≤ Config.maxField then withInt n s fun v s => .next (s.setResult v) else .refused .fieldTooWide

/-- `get_byte()` (R132). -/
def execGetByte (s : State) : Out := live s fun s => withUint 8 s fun v s => .next (s.setResult v)

/-- `align()` (R133). -/
def execAlign (s : State) : Out := live s fun s => .next s.align

/-- `clz8(b)` (R134): consumes nothing. -/
def execClz8 (b : Byte) (s : State) : Out := live s fun s => .next (s.setResult (clz8 b.toNat))

/-- `eos()` (R135), 1 for true: consumes nothing. -/
def execEos (s : State) : Out := live s fun s => .next (s.setResult (if s.eos then 1 else 0))

/-- `get_unary()` (R136). -/
def execGetUnary (s : State) : Out := live s fun s => withUnary s fun q s => .next (s.setResult q)

/-- `skip_bytes(n)` (R137). -/
def execSkipBytes (n : Nat) (s : State) : Out := live s fun s => skipBytes n s

end Sys2Proof.Machine
end

