-- ==== Sys2Proof/Machine/FrameEnd.lean ====
section
/-! DEFINITION. Inter-channel decorrelation and the end of a frame (R109, R270 to R275). -/

namespace Sys2Proof.Machine

/-- One sample of left/side: `ch1[i] <- i64(ch0[i] − ch1[i])` (R272). -/
def leftSideAt (i : Nat) (s : State) : Out := writeI64 1 i (s.sample 0 i - s.sample 1 i) s

/-- One sample of side/right: `ch0[i] <- i64(ch0[i] + ch1[i])` (R273). -/
def sideRightAt (i : Nat) (s : State) : Out := writeI64 0 i (s.sample 0 i + s.sample 1 i) s

/-- One sample of mid/side (R274). -/
def midSideAt (i : Nat) (s : State) : Out :=
  let side := s.sample 1 i
  match i64 (s.sample 0 i - asr side 1) with
  | none => raise (.plain .a06) s
  | some right => seq (writeSample 1 i right s) (writeI64 0 i (right + side))

/-- The decorrelation that `F_CHASSIGN` selects, over the whole block (R270 to R274). -/
def decorrelate (s : State) : Out :=
  match s.fr.chAssign.toNat with
  | 8 => forRange s.blocksize 0 leftSideAt s
  | 9 => forRange s.blocksize 0 sideRightAt s
  | 10 => forRange s.blocksize 0 midSideAt s
  | _ => .next s

/-- `PADDING` (R109, R275): the bits up to the next byte boundary, not examined. -/
def execPadding (_width _v : Nat) (s : State) : Out := live s fun s => .next s.align

/-- `CRC16` (R109, R275): read and discarded. -/
def execCrc16 (_v : BitVec 16) (s : State) : Out := element 16 s .next

end Sys2Proof.Machine
end

