-- ==== Sys2Proof/Machine/FrameHeader.lean ====
section
/-! DEFINITION. The elements of the frame header (R95 to R99, R180 to R193). The header's values stay in the working
registers until the whole header is read (R193). -/

namespace Sys2Proof.Machine

/-! ## What a code does, its bits being consumed -/

/-- Blocksize code `c` (R112, R187): P05 for 0; codes 6 and 7 leave the blocksize to the extension. -/
def blocksizeCode (c : Nat) (s : State) : Out :=
  match bsCodeFault c with
  | some r => raise r s
  | none =>
    let w := { s.work with bsCode := BitVec.ofNat 4 c }
    match blocksizeOf c with
    | .samples n => .next (s.setWork { w with blocksize := n })
    | .extension _ => .next (s.setWork w)

/-- Sample-rate code `c` (R113, R188): P06 for 15; code 0 reads `SI_RATE`; codes 12 to 14 leave the rate to the
extension. -/
def rateCode (c : Nat) (s : State) : Out :=
  match srCodeFault c with
  | some r => raise r s
  | none =>
    let code := BitVec.ofNat 4 c
    match rateOf c with
    | .streaminfo => withSiRate s fun v s => .next (s.setWork { s.work with srCode := code, rate := v.toNat })
    | .hertz n => .next (s.setWork { s.work with srCode := code, rate := n })
    | .extension _ _ => .next (s.setWork { s.work with srCode := code })

/-- Channel-assignment code `c` (R115, R192): A03 for 11 to 15, A04 for 2 to 7. -/
def channelCode (c : Nat) (s : State) : Out :=
  match caCodeFault c with
  | some r => raise r s
  | none => .next (s.setWork { s.work with caCode := BitVec.ofNat 4 c, nch := channelsOf c })

/-- Sample-size code `c` (R114, R191): P07 for 3; code 0 reads `SI_BPS`. -/
def sampleSizeCode (c : Nat) (s : State) : Out :=
  match ssCodeFault c with
  | some r => raise r s
  | none =>
    let code := BitVec.ofNat 3 c
    match sampleSizeOf c with
    | none => withSiBps s fun v s => .next (s.setWork { s.work with ssCode := code, bps := v.toNat })
    | some n => .next (s.setWork { s.work with ssCode := code, bps := n })

/-! ## The preamble and its codes -/

/-- `FRAME_PREAMBLE` (R95, R180 to R185): the four codes take effect in stream order; the blocking strategy is
discarded (R183). -/
def execFramePreamble (_strategy : Bool) (bs sr ca : BitVec 4) (ss : BitVec 3) (s : State) : Out :=
  element 32 s fun s =>
    seq (blocksizeCode bs.toNat s) fun s =>
    seq (rateCode sr.toNat s) fun s =>
    seq (channelCode ca.toNat s) fun s =>
    sampleSizeCode ss.toNat s

/-- A blocksize code on its own: its 4 bits, then its effect. -/
def bsCode (c : Nat) (s : State) : Out := element 4 s (blocksizeCode c)

/-- A sample-rate code on its own. -/
def srCode (c : Nat) (s : State) : Out := element 4 s (rateCode c)

/-- A channel-assignment code on its own. -/
def caCode (c : Nat) (s : State) : Out := element 4 s (channelCode c)

/-- A sample-size code on its own. -/
def ssCode (c : Nat) (s : State) : Out := element 3 s (sampleSizeCode c)

/-- `BS_CODE_0` (R112, R187). -/
def execBsCode0 (s : State) : Out := bsCode 0 s

/-- `BS_CODE_1` (R112, R187). -/
def execBsCode1 (s : State) : Out := bsCode 1 s

/-- `BS_CODE_2` (R112, R187). -/
def execBsCode2 (s : State) : Out := bsCode 2 s

/-- `BS_CODE_3` (R112, R187). -/
def execBsCode3 (s : State) : Out := bsCode 3 s

/-- `BS_CODE_4` (R112, R187). -/
def execBsCode4 (s : State) : Out := bsCode 4 s

/-- `BS_CODE_5` (R112, R187). -/
def execBsCode5 (s : State) : Out := bsCode 5 s

/-- `BS_CODE_6` (R112, R187). -/
def execBsCode6 (s : State) : Out := bsCode 6 s

/-- `BS_CODE_7` (R112, R187). -/
def execBsCode7 (s : State) : Out := bsCode 7 s

/-- `BS_CODE_8` (R112, R187). -/
def execBsCode8 (s : State) : Out := bsCode 8 s

/-- `BS_CODE_9` (R112, R187). -/
def execBsCode9 (s : State) : Out := bsCode 9 s

/-- `BS_CODE_10` (R112, R187). -/
def execBsCode10 (s : State) : Out := bsCode 10 s

/-- `BS_CODE_11` (R112, R187). -/
def execBsCode11 (s : State) : Out := bsCode 11 s

/-- `BS_CODE_12` (R112, R187). -/
def execBsCode12 (s : State) : Out := bsCode 12 s

/-- `BS_CODE_13` (R112, R187). -/
def execBsCode13 (s : State) : Out := bsCode 13 s

/-- `BS_CODE_14` (R112, R187). -/
def execBsCode14 (s : State) : Out := bsCode 14 s

/-- `BS_CODE_15` (R112, R187). -/
def execBsCode15 (s : State) : Out := bsCode 15 s

/-- `SR_CODE_0` (R113, R188). -/
def execSrCode0 (s : State) : Out := srCode 0 s

/-- `SR_CODE_1` (R113, R188). -/
def execSrCode1 (s : State) : Out := srCode 1 s

/-- `SR_CODE_2` (R113, R188). -/
def execSrCode2 (s : State) : Out := srCode 2 s

/-- `SR_CODE_3` (R113, R188). -/
def execSrCode3 (s : State) : Out := srCode 3 s

/-- `SR_CODE_4` (R113, R188). -/
def execSrCode4 (s : State) : Out := srCode 4 s

/-- `SR_CODE_5` (R113, R188). -/
def execSrCode5 (s : State) : Out := srCode 5 s

/-- `SR_CODE_6` (R113, R188). -/
def execSrCode6 (s : State) : Out := srCode 6 s

/-- `SR_CODE_7` (R113, R188). -/
def execSrCode7 (s : State) : Out := srCode 7 s

/-- `SR_CODE_8` (R113, R188). -/
def execSrCode8 (s : State) : Out := srCode 8 s

/-- `SR_CODE_9` (R113, R188). -/
def execSrCode9 (s : State) : Out := srCode 9 s

/-- `SR_CODE_10` (R113, R188). -/
def execSrCode10 (s : State) : Out := srCode 10 s

/-- `SR_CODE_11` (R113, R188). -/
def execSrCode11 (s : State) : Out := srCode 11 s

/-- `SR_CODE_12` (R113, R188). -/
def execSrCode12 (s : State) : Out := srCode 12 s

/-- `SR_CODE_13` (R113, R188). -/
def execSrCode13 (s : State) : Out := srCode 13 s

/-- `SR_CODE_14` (R113, R188). -/
def execSrCode14 (s : State) : Out := srCode 14 s

/-- `SR_CODE_15` (R113, R188). -/
def execSrCode15 (s : State) : Out := srCode 15 s

/-- `CA_CODE_0` (R115, R192). -/
def execCaCode0 (s : State) : Out := caCode 0 s

/-- `CA_CODE_1` (R115, R192). -/
def execCaCode1 (s : State) : Out := caCode 1 s

/-- `CA_CODE_2` (R115, R192). -/
def execCaCode2 (s : State) : Out := caCode 2 s

/-- `CA_CODE_3` (R115, R192). -/
def execCaCode3 (s : State) : Out := caCode 3 s

/-- `CA_CODE_4` (R115, R192). -/
def execCaCode4 (s : State) : Out := caCode 4 s

/-- `CA_CODE_5` (R115, R192). -/
def execCaCode5 (s : State) : Out := caCode 5 s

/-- `CA_CODE_6` (R115, R192). -/
def execCaCode6 (s : State) : Out := caCode 6 s

/-- `CA_CODE_7` (R115, R192). -/
def execCaCode7 (s : State) : Out := caCode 7 s

/-- `CA_CODE_8` (R115, R192). -/
def execCaCode8 (s : State) : Out := caCode 8 s

/-- `CA_CODE_9` (R115, R192). -/
def execCaCode9 (s : State) : Out := caCode 9 s

/-- `CA_CODE_10` (R115, R192). -/
def execCaCode10 (s : State) : Out := caCode 10 s

/-- `CA_CODE_11` (R115, R192). -/
def execCaCode11 (s : State) : Out := caCode 11 s

/-- `CA_CODE_12` (R115, R192). -/
def execCaCode12 (s : State) : Out := caCode 12 s

/-- `CA_CODE_13` (R115, R192). -/
def execCaCode13 (s : State) : Out := caCode 13 s

/-- `CA_CODE_14` (R115, R192). -/
def execCaCode14 (s : State) : Out := caCode 14 s

/-- `CA_CODE_15` (R115, R192). -/
def execCaCode15 (s : State) : Out := caCode 15 s

/-- `SS_CODE_0` (R114, R191). -/
def execSsCode0 (s : State) : Out := ssCode 0 s

/-- `SS_CODE_1` (R114, R191). -/
def execSsCode1 (s : State) : Out := ssCode 1 s

/-- `SS_CODE_2` (R114, R191). -/
def execSsCode2 (s : State) : Out := ssCode 2 s

/-- `SS_CODE_3` (R114, R191). -/
def execSsCode3 (s : State) : Out := ssCode 3 s

/-- `SS_CODE_4` (R114, R191). -/
def execSsCode4 (s : State) : Out := ssCode 4 s

/-- `SS_CODE_5` (R114, R191). -/
def execSsCode5 (s : State) : Out := ssCode 5 s

/-- `SS_CODE_6` (R114, R191). -/
def execSsCode6 (s : State) : Out := ssCode 6 s

/-- `SS_CODE_7` (R114, R191). -/
def execSsCode7 (s : State) : Out := ssCode 7 s

/-! ## The rest of the header -/

/-- A coded number of one byte and `k` following bytes, all discarded (R96, R186). -/
def codedNumber (k : Nat) (s : State) : Out := element (8 + 8 * k) s .next

/-- `CODED_NUMBER_K0_00` (R96, R186): 0 following bytes. -/
def execCodedNumberK000 (_x : BitVec 7) (s : State) : Out := codedNumber 0 s

/-- `CODED_NUMBER_K0_80` (R96, R186): 0 following bytes. -/
def execCodedNumberK080 (_x : BitVec 6) (s : State) : Out := codedNumber 0 s

/-- `CODED_NUMBER_K1_C0` (R96, R186): 1 following byte. -/
def execCodedNumberK1C0 (_x : BitVec 5) (_following : BitVec 8) (s : State) : Out := codedNumber 1 s

/-- `CODED_NUMBER_K2_E0` (R96, R186): 2 following bytes. -/
def execCodedNumberK2E0 (_x : BitVec 4) (_following : BitVec 16) (s : State) : Out := codedNumber 2 s

/-- `CODED_NUMBER_K3_F0` (R96, R186): 3 following bytes. -/
def execCodedNumberK3F0 (_x : BitVec 3) (_following : BitVec 24) (s : State) : Out := codedNumber 3 s

/-- `CODED_NUMBER_K4_F8` (R96, R186): 4 following bytes. -/
def execCodedNumberK4F8 (_x : BitVec 2) (_following : BitVec 32) (s : State) : Out := codedNumber 4 s

/-- `CODED_NUMBER_K5_FC` (R96, R186): 5 following bytes. -/
def execCodedNumberK5FC (_x : BitVec 1) (_following : BitVec 40) (s : State) : Out := codedNumber 5 s

/-- `CODED_NUMBER_K6_FE` (R96, R186): 6 following bytes. -/
def execCodedNumberK6FE (_following : BitVec 48) (s : State) : Out := codedNumber 6 s

/-- `CODED_NUMBER_K7_FF` (R96, R186): 7 following bytes. -/
def execCodedNumberK7FF (_following : BitVec 56) (s : State) : Out := codedNumber 7 s

/-- A blocksize extension: the field plus 1 (R97, R187). -/
def blocksizeExt (width v : Nat) (s : State) : Out :=
  element width s fun s => .next (s.setWork { s.work with blocksize := v + 1 })

/-- `BLOCKSIZE_EXT8` (R97, R187). -/
def execBlocksizeExt8 (v : BitVec 8) (s : State) : Out := blocksizeExt 8 v.toNat s

/-- `BLOCKSIZE_EXT16` (R97, R187). -/
def execBlocksizeExt16 (v : BitVec 16) (s : State) : Out := blocksizeExt 16 v.toNat s

/-- A sample-rate extension, scaled to Hz (R98, R188). -/
def rateExt (width scale v : Nat) (s : State) : Out :=
  element width s fun s => .next (s.setWork { s.work with rate := v * scale })

/-- `RATE_EXT8_KHZ` (R98, R188). -/
def execRateExt8Khz (v : BitVec 8) (s : State) : Out := rateExt 8 1000 v.toNat s

/-- `RATE_EXT16_HZ` (R98, R188). -/
def execRateExt16Hz (v : BitVec 16) (s : State) : Out := rateExt 16 1 v.toNat s

/-- `RATE_EXT16_DHZ` (R98, R188). -/
def execRateExt16Dhz (v : BitVec 16) (s : State) : Out := rateExt 16 10 v.toNat s

/-- `CRC8` (R99, R189): read and discarded. -/
def execCrc8 (_v : BitVec 8) (s : State) : Out := element 8 s .next

/-- The end of the header: A05 if the blocksize exceeds `N` (R190), else the five frame registers written (R193). -/
def writeFrameRegs (s : State) : Out :=
  if s.work.blocksize > s.capacity then raise (.gotOf .a05 s.work.blocksize s.capacity) s
  else
    .next (s.setFrameRegs
      { blocksize := BitVec.ofNat 17 s.work.blocksize
        rate := BitVec.ofNat 20 s.work.rate
        chAssign := s.work.caCode
        nch := BitVec.ofNat 2 s.work.nch
        bps := BitVec.ofNat 6 s.work.bps })

end Sys2Proof.Machine
end

