-- ==== Sys2Proof/Machine/Metadata.lean ====
section
/-! DEFINITION. The marker and the metadata elements (R91 to R94, R152 to R157). -/

namespace Sys2Proof.Machine

/-- `MARKER` (R91, R152): the 32 bits are consumed; `STATE` is the command's to move. -/
def execMarker (s : State) : Out := element 32 s .next

/-- A metadata block header (R92, R153): `last`, `type` and `length` read. -/
def metaHeader (last : Bool) (type : Nat) (length : BitVec 24) (s : State) : Out :=
  element 32 s fun s =>
    .next (s.setWork { s.work with metaLast := last, metaType := BitVec.ofNat 7 type, metaLength := length })

/-- `META_STREAMINFO` (R92, R154). -/
def execMetaStreaminfo (last : Bool) (length : BitVec 24) (s : State) : Out := metaHeader last 0 length s

/-- `META_SKIP_6` (R92, R156). -/
def execMetaSkip6 (last : Bool) (low : BitVec 6) (length : BitVec 24) (s : State) : Out :=
  metaHeader last (64 + low.toNat) length s

/-- `META_SKIP_5` (R92, R156). -/
def execMetaSkip5 (last : Bool) (low : BitVec 5) (length : BitVec 24) (s : State) : Out :=
  metaHeader last (32 + low.toNat) length s

/-- `META_SKIP_4` (R92, R156). -/
def execMetaSkip4 (last : Bool) (low : BitVec 4) (length : BitVec 24) (s : State) : Out :=
  metaHeader last (16 + low.toNat) length s

/-- `META_SKIP_3` (R92, R156). -/
def execMetaSkip3 (last : Bool) (low : BitVec 3) (length : BitVec 24) (s : State) : Out :=
  metaHeader last (8 + low.toNat) length s

/-- `META_SKIP_2` (R92, R156). -/
def execMetaSkip2 (last : Bool) (low : BitVec 2) (length : BitVec 24) (s : State) : Out :=
  metaHeader last (4 + low.toNat) length s

/-- `META_SKIP_1` (R92, R156). -/
def execMetaSkip1 (last : Bool) (low : BitVec 1) (length : BitVec 24) (s : State) : Out :=
  metaHeader last (2 + low.toNat) length s

/-- `META_SKIP_0` (R92, R156). -/
def execMetaSkip0 (last : Bool) (length : BitVec 24) (s : State) : Out :=
  metaHeader last 1 length s

/-- The `SI_*` group of a body's fields, the transforms of R93 done. -/
def streamInfoOf (minBlock maxBlock : BitVec 16) (minFrame maxFrame : BitVec 24) (rate : BitVec 20)
    (channelsMinus1 : BitVec 3) (bpsMinus1 : BitVec 5) (total : BitVec 36) : StreamInfo where
  minBlock := minBlock
  maxBlock := maxBlock
  minFrame := minFrame
  maxFrame := maxFrame
  rate := rate
  channels := BitVec.ofNat 4 (channelsMinus1.toNat + 1)
  bps := BitVec.ofNat 6 (bpsMinus1.toNat + 1)
  total := total

/-- `STREAMINFO_BODY` (R93, R154, R155): A02 before A01, else the registers written and `SI_VALID` set; the MD5 is
discarded. -/
def execStreaminfoBody (minBlock maxBlock : BitVec 16) (minFrame maxFrame : BitVec 24) (rate : BitVec 20)
    (channelsMinus1 : BitVec 3) (bpsMinus1 : BitVec 5) (total : BitVec 36) (_md5 : BitVec 128) (s : State) : Out :=
  element 272 s fun s =>
    match maxBlockFault s.capacity maxBlock.toNat with
    | some r => raise r s
    | none =>
      match channelCountFault (channelsMinus1.toNat + 1) with
      | some r => raise r s
      | none =>
        .next (s.setStreamInfo
          (streamInfoOf minBlock maxBlock minFrame maxFrame rate channelsMinus1 bpsMinus1 total))

/-- `SKIPPED_BODY` (R94, R156): `length` bytes skipped, not examined. -/
def execSkippedBody (length : BitVec 24) (s : State) : Out := live s fun s => skipBytes length.toNat s

end Sys2Proof.Machine
end

