-- ==== Sys2Proof/Machine/Residual.lean ====
section
/-! DEFINITION. The leaves of the residual (R106 to R108, R250 to R256). -/

namespace Sys2Proof.Machine

/-- A residual header of method 0 or 1 (R106): P10 if the partitions do not divide the block, P12 if a partition is
shorter than the order, both right after the partition order (R251). -/
def residualHeader (method po : Nat) (s : State) : Out :=
  element 6 s fun s =>
    if s.blocksize % 2 ^ po ≠ 0 then raise (.gotOf .p10 s.blocksize (2 ^ po : Nat)) s
    else
      let psize := s.blocksize / 2 ^ po
      if psize < s.work.order then raise (.gotOf .p12 s.work.order psize) s
      else .next (s.setWork { s.work with method := method, po := po, pcount := 2 ^ po, psize := psize })

/-- Method 2 or 3: P09 right after the method field (R253). -/
def residualReserved (method : Nat) (s : State) : Out := element 2 s fun s => raise (.got .p09 method) s

/-- `RESIDUAL_METHOD_0` (R117, R253). -/
def execResidualMethod0 (po : BitVec 4) (s : State) : Out := residualHeader 0 po.toNat s

/-- `RESIDUAL_METHOD_1` (R117, R253). -/
def execResidualMethod1 (po : BitVec 4) (s : State) : Out := residualHeader 1 po.toNat s

/-- `RESIDUAL_METHOD_2` (R117, R253). -/
def execResidualMethod2 (s : State) : Out := residualReserved 2 s

/-- `RESIDUAL_METHOD_3` (R117, R253). -/
def execResidualMethod3 (s : State) : Out := residualReserved 3 s

/-- A Rice parameter `k` of a partition (R253). -/
def riceParam (width k : Nat) (s : State) : Out :=
  element width s fun s => .next (s.setWork { s.work with param := k, escaped := false })

/-- The escape value of a partition's parameter (R253, R256). -/
def escapeParam (width esc : Nat) (s : State) : Out :=
  element width s fun s => .next (s.setWork { s.work with param := esc, escaped := true })

/-- `PARAM4_RICE_K0` (R107, R253, R254). -/
def execParam4RiceK0 (s : State) : Out := riceParam 4 0 s

/-- `PARAM4_RICE_K1` (R107, R253, R254). -/
def execParam4RiceK1 (s : State) : Out := riceParam 4 1 s

/-- `PARAM4_RICE_K2` (R107, R253, R254). -/
def execParam4RiceK2 (s : State) : Out := riceParam 4 2 s

/-- `PARAM4_RICE_K3` (R107, R253, R254). -/
def execParam4RiceK3 (s : State) : Out := riceParam 4 3 s

/-- `PARAM4_RICE_K4` (R107, R253, R254). -/
def execParam4RiceK4 (s : State) : Out := riceParam 4 4 s

/-- `PARAM4_RICE_K5` (R107, R253, R254). -/
def execParam4RiceK5 (s : State) : Out := riceParam 4 5 s

/-- `PARAM4_RICE_K6` (R107, R253, R254). -/
def execParam4RiceK6 (s : State) : Out := riceParam 4 6 s

/-- `PARAM4_RICE_K7` (R107, R253, R254). -/
def execParam4RiceK7 (s : State) : Out := riceParam 4 7 s

/-- `PARAM4_RICE_K8` (R107, R253, R254). -/
def execParam4RiceK8 (s : State) : Out := riceParam 4 8 s

/-- `PARAM4_RICE_K9` (R107, R253, R254). -/
def execParam4RiceK9 (s : State) : Out := riceParam 4 9 s

/-- `PARAM4_RICE_K10` (R107, R253, R254). -/
def execParam4RiceK10 (s : State) : Out := riceParam 4 10 s

/-- `PARAM4_RICE_K11` (R107, R253, R254). -/
def execParam4RiceK11 (s : State) : Out := riceParam 4 11 s

/-- `PARAM4_RICE_K12` (R107, R253, R254). -/
def execParam4RiceK12 (s : State) : Out := riceParam 4 12 s

/-- `PARAM4_RICE_K13` (R107, R253, R254). -/
def execParam4RiceK13 (s : State) : Out := riceParam 4 13 s

/-- `PARAM4_RICE_K14` (R107, R253, R254). -/
def execParam4RiceK14 (s : State) : Out := riceParam 4 14 s

/-- `PARAM4_ESCAPE` (R107, R256). -/
def execParam4Escape (s : State) : Out := escapeParam 4 15 s

/-- `PARAM5_RICE_K0` (R107, R253, R254). -/
def execParam5RiceK0 (s : State) : Out := riceParam 5 0 s

/-- `PARAM5_RICE_K1` (R107, R253, R254). -/
def execParam5RiceK1 (s : State) : Out := riceParam 5 1 s

/-- `PARAM5_RICE_K2` (R107, R253, R254). -/
def execParam5RiceK2 (s : State) : Out := riceParam 5 2 s

/-- `PARAM5_RICE_K3` (R107, R253, R254). -/
def execParam5RiceK3 (s : State) : Out := riceParam 5 3 s

/-- `PARAM5_RICE_K4` (R107, R253, R254). -/
def execParam5RiceK4 (s : State) : Out := riceParam 5 4 s

/-- `PARAM5_RICE_K5` (R107, R253, R254). -/
def execParam5RiceK5 (s : State) : Out := riceParam 5 5 s

/-- `PARAM5_RICE_K6` (R107, R253, R254). -/
def execParam5RiceK6 (s : State) : Out := riceParam 5 6 s

/-- `PARAM5_RICE_K7` (R107, R253, R254). -/
def execParam5RiceK7 (s : State) : Out := riceParam 5 7 s

/-- `PARAM5_RICE_K8` (R107, R253, R254). -/
def execParam5RiceK8 (s : State) : Out := riceParam 5 8 s

/-- `PARAM5_RICE_K9` (R107, R253, R254). -/
def execParam5RiceK9 (s : State) : Out := riceParam 5 9 s

/-- `PARAM5_RICE_K10` (R107, R253, R254). -/
def execParam5RiceK10 (s : State) : Out := riceParam 5 10 s

/-- `PARAM5_RICE_K11` (R107, R253, R254). -/
def execParam5RiceK11 (s : State) : Out := riceParam 5 11 s

/-- `PARAM5_RICE_K12` (R107, R253, R254). -/
def execParam5RiceK12 (s : State) : Out := riceParam 5 12 s

/-- `PARAM5_RICE_K13` (R107, R253, R254). -/
def execParam5RiceK13 (s : State) : Out := riceParam 5 13 s

/-- `PARAM5_RICE_K14` (R107, R253, R254). -/
def execParam5RiceK14 (s : State) : Out := riceParam 5 14 s

/-- `PARAM5_RICE_K15` (R107, R253, R254). -/
def execParam5RiceK15 (s : State) : Out := riceParam 5 15 s

/-- `PARAM5_RICE_K16` (R107, R253, R254). -/
def execParam5RiceK16 (s : State) : Out := riceParam 5 16 s

/-- `PARAM5_RICE_K17` (R107, R253, R254). -/
def execParam5RiceK17 (s : State) : Out := riceParam 5 17 s

/-- `PARAM5_RICE_K18` (R107, R253, R254). -/
def execParam5RiceK18 (s : State) : Out := riceParam 5 18 s

/-- `PARAM5_RICE_K19` (R107, R253, R254). -/
def execParam5RiceK19 (s : State) : Out := riceParam 5 19 s

/-- `PARAM5_RICE_K20` (R107, R253, R254). -/
def execParam5RiceK20 (s : State) : Out := riceParam 5 20 s

/-- `PARAM5_RICE_K21` (R107, R253, R254). -/
def execParam5RiceK21 (s : State) : Out := riceParam 5 21 s

/-- `PARAM5_RICE_K22` (R107, R253, R254). -/
def execParam5RiceK22 (s : State) : Out := riceParam 5 22 s

/-- `PARAM5_RICE_K23` (R107, R253, R254). -/
def execParam5RiceK23 (s : State) : Out := riceParam 5 23 s

/-- `PARAM5_RICE_K24` (R107, R253, R254). -/
def execParam5RiceK24 (s : State) : Out := riceParam 5 24 s

/-- `PARAM5_RICE_K25` (R107, R253, R254). -/
def execParam5RiceK25 (s : State) : Out := riceParam 5 25 s

/-- `PARAM5_RICE_K26` (R107, R253, R254). -/
def execParam5RiceK26 (s : State) : Out := riceParam 5 26 s

/-- `PARAM5_RICE_K27` (R107, R253, R254). -/
def execParam5RiceK27 (s : State) : Out := riceParam 5 27 s

/-- `PARAM5_RICE_K28` (R107, R253, R254). -/
def execParam5RiceK28 (s : State) : Out := riceParam 5 28 s

/-- `PARAM5_RICE_K29` (R107, R253, R254). -/
def execParam5RiceK29 (s : State) : Out := riceParam 5 29 s

/-- `PARAM5_RICE_K30` (R107, R253, R254). -/
def execParam5RiceK30 (s : State) : Out := riceParam 5 30 s

/-- `PARAM5_ESCAPE` (R107, R256). -/
def execParam5Escape (s : State) : Out := escapeParam 5 31 s

/-- `ESCAPE_WIDTH` (R107, R256). -/
def execEscapeWidth (n : BitVec 5) (s : State) : Out :=
  element 5 s fun s => .next (s.setWork { s.work with bitCount := n.toNat })

/-- The next residual stored unshifted in `x[index]`, and the index moved on (R250, R257). -/
def storeResidual (v : Int) (s : State) : Out :=
  seq (writeXI64 s.work.index v s) fun s => .next (s.setWork { s.work with index := s.work.index + 1 })

/-- `RAW_RESIDUAL` (R107, R256). -/
def execRawResidual (width : Nat) (v : Int) (s : State) : Out := element width s (storeResidual v)

/-- `RICE_WORD` (R108, R254, R255): `u = q · 2^k + r`, folded to a signed value, A06 outside 64 bits. -/
def execRiceWord (k q r : Nat) (s : State) : Out :=
  element (q + 1 + k) s (storeResidual (zigzag (q * 2 ^ k + r)))

end Sys2Proof.Machine
end

