-- ==== Sys2Proof/Machine/Subframe.lean ====
section
/-! DEFINITION. The leaves of a subframe: its header, the wasted bits, the constant (R100 to R102, R210 to R216). -/

namespace Sys2Proof.Machine

/-- A subframe header of a legal type (R212): the first bit is ignored, `w` is 0 until a count is read (R213). `order` is
written here, 0 for a type without a predictor (DESIGN CHOICE, log entry 29). -/
def subframeHeader (type : Nat) (wasted : Bool) (s : State) : Out :=
  element 8 s fun s =>
    .next (s.setWork { s.work with type := type, wastedFlag := wasted, w := 0, order := predictorOrder type })

/-- A reserved type: P08 as soon as the type is read, before the wasted-bits flag (R212, R215). -/
def subframeReservedHeader (type : Nat) (s : State) : Out :=
  element 7 s fun s => raise (.got .p08 type) s

/-- `SUBFRAME_CONSTANT` (R116, R212). -/
def execSubframeConstant (_zero wasted : Bool) (s : State) : Out := subframeHeader 0 wasted s

/-- `SUBFRAME_VERBATIM` (R116, R212). -/
def execSubframeVerbatim (_zero wasted : Bool) (s : State) : Out := subframeHeader 1 wasted s

/-- `SUBFRAME_RESERVED_2_3` (R116, R215). -/
def execSubframeReserved2To3 (_zero : Bool) (x : BitVec 1) (s : State) : Out := subframeReservedHeader (2 + x.toNat) s

/-- `SUBFRAME_RESERVED_4_7` (R116, R215). -/
def execSubframeReserved4To7 (_zero : Bool) (x : BitVec 2) (s : State) : Out := subframeReservedHeader (4 + x.toNat) s

/-- `SUBFRAME_FIXED0` (R116, R212). -/
def execSubframeFixed0 (_zero wasted : Bool) (s : State) : Out := subframeHeader 8 wasted s

/-- `SUBFRAME_FIXED1` (R116, R212). -/
def execSubframeFixed1 (_zero wasted : Bool) (s : State) : Out := subframeHeader 9 wasted s

/-- `SUBFRAME_FIXED2` (R116, R212). -/
def execSubframeFixed2 (_zero wasted : Bool) (s : State) : Out := subframeHeader 10 wasted s

/-- `SUBFRAME_FIXED3` (R116, R212). -/
def execSubframeFixed3 (_zero wasted : Bool) (s : State) : Out := subframeHeader 11 wasted s

/-- `SUBFRAME_FIXED4` (R116, R212). -/
def execSubframeFixed4 (_zero wasted : Bool) (s : State) : Out := subframeHeader 12 wasted s

/-- `SUBFRAME_RESERVED_13` (R116, R215). -/
def execSubframeReserved13 (_zero : Bool) (s : State) : Out := subframeReservedHeader 13 s

/-- `SUBFRAME_RESERVED_14_15` (R116, R215). -/
def execSubframeReserved14To15 (_zero : Bool) (x : BitVec 1) (s : State) : Out := subframeReservedHeader (14 + x.toNat) s

/-- `SUBFRAME_RESERVED_16_31` (R116, R215). -/
def execSubframeReserved16To31 (_zero : Bool) (x : BitVec 4) (s : State) : Out := subframeReservedHeader (16 + x.toNat) s

/-- `SUBFRAME_LPC` (R116, R212): type `32 + orderMinus1`. -/
def execSubframeLpc (_zero : Bool) (orderMinus1 : BitVec 5) (wasted : Bool) (s : State) : Out :=
  subframeHeader (32 + orderMinus1.toNat) wasted s

/-- `WASTED_UNARY` (R213): `w` zero bits and a 1 bit give `w`. -/
def execWastedUnary (w : Nat) (s : State) : Out :=
  element (w + 1) s fun s => .next (s.setWork { s.work with w := w })

/-- `bps_eff = F_BPS + side_extra − w`, P13 outside 1 to 64 (R211, R214). -/
def effectiveWidth (s : State) : Out :=
  let bps : Int := s.fr.bps.toNat + sideExtra s.fr.chAssign.toNat s.work.ch - s.work.w
  if bps < 1 || 64 < bps then raise (.got .p13 bps) s
  else .next (s.setWork { s.work with bpsEff := bps.toNat })

/-- `CONSTANT_BODY` (R102, R216): one signed field fills the channel. A width above 64 is out of R214's range and met only
by an element on the port: the cells take the field's low 64 bits (DESIGN CHOICE, log entry 31). -/
def execConstantBody (width : Nat) (v : Int) (s : State) : Out :=
  element width s fun s => forRange s.blocksize 0 (fun i s => writeX i v s) s

/-- The wasted-bit shift of the whole channel (R223). -/
def shiftWasted (s : State) : Out :=
  forRange s.blocksize 0 (fun i s => writeXI64 i (shl (s.x i) s.work.w) s) s

end Sys2Proof.Machine
end

