-- ==== Sys2Proof/Machine/Sequencer.lean ====
section
/-! DEFINITION. The sequencer inside a command: it decodes the leaf that the grammar of R90 puts at `BITPOS` and runs
that leaf's meaning. -/

namespace Sys2Proof.Machine

/-- The meaning of a leaf of the stream grammar, the same definition that `exec` calls. -/
def execLeaf (i : Instr) (s : State) : Out :=
  match i with
  | .decodeMarker => .refused .notALeaf
  | .decodeMetadata => .refused .notALeaf
  | .decodeAudio => .refused .notALeaf
  | .command3Unused => .refused .notALeaf
  | .getUint _ => .refused .notALeaf
  | .getInt _ => .refused .notALeaf
  | .getByte => .refused .notALeaf
  | .align => .refused .notALeaf
  | .clz8 _ => .refused .notALeaf
  | .eos => .refused .notALeaf
  | .getUnary => .refused .notALeaf
  | .skipBytes _ => .refused .notALeaf
  | .marker => execMarker s
  | .metaStreaminfo last length => execMetaStreaminfo last length s
  | .metaSkip6 last low length => execMetaSkip6 last low length s
  | .metaSkip5 last low length => execMetaSkip5 last low length s
  | .metaSkip4 last low length => execMetaSkip4 last low length s
  | .metaSkip3 last low length => execMetaSkip3 last low length s
  | .metaSkip2 last low length => execMetaSkip2 last low length s
  | .metaSkip1 last low length => execMetaSkip1 last low length s
  | .metaSkip0 last length => execMetaSkip0 last length s
  | .streaminfoBody minBlock maxBlock minFrame maxFrame rate channelsMinus1 bpsMinus1 total md5 => execStreaminfoBody minBlock maxBlock minFrame maxFrame rate channelsMinus1 bpsMinus1 total md5 s
  | .skippedBody length => execSkippedBody length s
  | .framePreamble strategy bs sr ca ss => execFramePreamble strategy bs sr ca ss s
  | .bsCode0 => execBsCode0 s
  | .bsCode1 => execBsCode1 s
  | .bsCode2 => execBsCode2 s
  | .bsCode3 => execBsCode3 s
  | .bsCode4 => execBsCode4 s
  | .bsCode5 => execBsCode5 s
  | .bsCode6 => execBsCode6 s
  | .bsCode7 => execBsCode7 s
  | .bsCode8 => execBsCode8 s
  | .bsCode9 => execBsCode9 s
  | .bsCode10 => execBsCode10 s
  | .bsCode11 => execBsCode11 s
  | .bsCode12 => execBsCode12 s
  | .bsCode13 => execBsCode13 s
  | .bsCode14 => execBsCode14 s
  | .bsCode15 => execBsCode15 s
  | .srCode0 => execSrCode0 s
  | .srCode1 => execSrCode1 s
  | .srCode2 => execSrCode2 s
  | .srCode3 => execSrCode3 s
  | .srCode4 => execSrCode4 s
  | .srCode5 => execSrCode5 s
  | .srCode6 => execSrCode6 s
  | .srCode7 => execSrCode7 s
  | .srCode8 => execSrCode8 s
  | .srCode9 => execSrCode9 s
  | .srCode10 => execSrCode10 s
  | .srCode11 => execSrCode11 s
  | .srCode12 => execSrCode12 s
  | .srCode13 => execSrCode13 s
  | .srCode14 => execSrCode14 s
  | .srCode15 => execSrCode15 s
  | .caCode0 => execCaCode0 s
  | .caCode1 => execCaCode1 s
  | .caCode2 => execCaCode2 s
  | .caCode3 => execCaCode3 s
  | .caCode4 => execCaCode4 s
  | .caCode5 => execCaCode5 s
  | .caCode6 => execCaCode6 s
  | .caCode7 => execCaCode7 s
  | .caCode8 => execCaCode8 s
  | .caCode9 => execCaCode9 s
  | .caCode10 => execCaCode10 s
  | .caCode11 => execCaCode11 s
  | .caCode12 => execCaCode12 s
  | .caCode13 => execCaCode13 s
  | .caCode14 => execCaCode14 s
  | .caCode15 => execCaCode15 s
  | .ssCode0 => execSsCode0 s
  | .ssCode1 => execSsCode1 s
  | .ssCode2 => execSsCode2 s
  | .ssCode3 => execSsCode3 s
  | .ssCode4 => execSsCode4 s
  | .ssCode5 => execSsCode5 s
  | .ssCode6 => execSsCode6 s
  | .ssCode7 => execSsCode7 s
  | .codedNumberK000 x => execCodedNumberK000 x s
  | .codedNumberK080 x => execCodedNumberK080 x s
  | .codedNumberK1C0 x following => execCodedNumberK1C0 x following s
  | .codedNumberK2E0 x following => execCodedNumberK2E0 x following s
  | .codedNumberK3F0 x following => execCodedNumberK3F0 x following s
  | .codedNumberK4F8 x following => execCodedNumberK4F8 x following s
  | .codedNumberK5FC x following => execCodedNumberK5FC x following s
  | .codedNumberK6FE following => execCodedNumberK6FE following s
  | .codedNumberK7FF following => execCodedNumberK7FF following s
  | .blocksizeExt8 v => execBlocksizeExt8 v s
  | .blocksizeExt16 v => execBlocksizeExt16 v s
  | .rateExt8Khz v => execRateExt8Khz v s
  | .rateExt16Hz v => execRateExt16Hz v s
  | .rateExt16Dhz v => execRateExt16Dhz v s
  | .crc8 v => execCrc8 v s
  | .subframeConstant zero wasted => execSubframeConstant zero wasted s
  | .subframeVerbatim zero wasted => execSubframeVerbatim zero wasted s
  | .subframeReserved2To3 zero x => execSubframeReserved2To3 zero x s
  | .subframeReserved4To7 zero x => execSubframeReserved4To7 zero x s
  | .subframeFixed0 zero wasted => execSubframeFixed0 zero wasted s
  | .subframeFixed1 zero wasted => execSubframeFixed1 zero wasted s
  | .subframeFixed2 zero wasted => execSubframeFixed2 zero wasted s
  | .subframeFixed3 zero wasted => execSubframeFixed3 zero wasted s
  | .subframeFixed4 zero wasted => execSubframeFixed4 zero wasted s
  | .subframeReserved13 zero => execSubframeReserved13 zero s
  | .subframeReserved14To15 zero x => execSubframeReserved14To15 zero x s
  | .subframeReserved16To31 zero x => execSubframeReserved16To31 zero x s
  | .subframeLpc zero orderMinus1 wasted => execSubframeLpc zero orderMinus1 wasted s
  | .wastedUnary w => execWastedUnary w s
  | .constantBody width v => execConstantBody width v s
  | .verbatimBody => .refused .notALeaf
  | .fixedBody _ => .refused .notALeaf
  | .lpcBody _ => .refused .notALeaf
  | .residualMethod0 po => execResidualMethod0 po s
  | .residualMethod1 po => execResidualMethod1 po s
  | .residualMethod2 => execResidualMethod2 s
  | .residualMethod3 => execResidualMethod3 s
  | .param4RiceK0 => execParam4RiceK0 s
  | .param4RiceK1 => execParam4RiceK1 s
  | .param4RiceK2 => execParam4RiceK2 s
  | .param4RiceK3 => execParam4RiceK3 s
  | .param4RiceK4 => execParam4RiceK4 s
  | .param4RiceK5 => execParam4RiceK5 s
  | .param4RiceK6 => execParam4RiceK6 s
  | .param4RiceK7 => execParam4RiceK7 s
  | .param4RiceK8 => execParam4RiceK8 s
  | .param4RiceK9 => execParam4RiceK9 s
  | .param4RiceK10 => execParam4RiceK10 s
  | .param4RiceK11 => execParam4RiceK11 s
  | .param4RiceK12 => execParam4RiceK12 s
  | .param4RiceK13 => execParam4RiceK13 s
  | .param4RiceK14 => execParam4RiceK14 s
  | .param4Escape => execParam4Escape s
  | .param5RiceK0 => execParam5RiceK0 s
  | .param5RiceK1 => execParam5RiceK1 s
  | .param5RiceK2 => execParam5RiceK2 s
  | .param5RiceK3 => execParam5RiceK3 s
  | .param5RiceK4 => execParam5RiceK4 s
  | .param5RiceK5 => execParam5RiceK5 s
  | .param5RiceK6 => execParam5RiceK6 s
  | .param5RiceK7 => execParam5RiceK7 s
  | .param5RiceK8 => execParam5RiceK8 s
  | .param5RiceK9 => execParam5RiceK9 s
  | .param5RiceK10 => execParam5RiceK10 s
  | .param5RiceK11 => execParam5RiceK11 s
  | .param5RiceK12 => execParam5RiceK12 s
  | .param5RiceK13 => execParam5RiceK13 s
  | .param5RiceK14 => execParam5RiceK14 s
  | .param5RiceK15 => execParam5RiceK15 s
  | .param5RiceK16 => execParam5RiceK16 s
  | .param5RiceK17 => execParam5RiceK17 s
  | .param5RiceK18 => execParam5RiceK18 s
  | .param5RiceK19 => execParam5RiceK19 s
  | .param5RiceK20 => execParam5RiceK20 s
  | .param5RiceK21 => execParam5RiceK21 s
  | .param5RiceK22 => execParam5RiceK22 s
  | .param5RiceK23 => execParam5RiceK23 s
  | .param5RiceK24 => execParam5RiceK24 s
  | .param5RiceK25 => execParam5RiceK25 s
  | .param5RiceK26 => execParam5RiceK26 s
  | .param5RiceK27 => execParam5RiceK27 s
  | .param5RiceK28 => execParam5RiceK28 s
  | .param5RiceK29 => execParam5RiceK29 s
  | .param5RiceK30 => execParam5RiceK30 s
  | .param5Escape => execParam5Escape s
  | .escapeWidth n => execEscapeWidth n s
  | .rawResidual width v => execRawResidual width v s
  | .riceWord k q r => execRiceWord k q r s
  | .padding width v => execPadding width v s
  | .crc16 v => execCrc16 v s

/-- Decode the element of kind `k` at `BITPOS` and run it; a violation is raised where it is read (R294). -/
def runLeaf (k : Kind) (s : State) : Out :=
  live s fun s =>
    match s.decodeAt k with
    | .ok i => execLeaf i s
    | .error r => raise r s

end Sys2Proof.Machine
end

