-- ==== Sys2Proof/Machine/Bodies.lean ====
section
/-! DEFINITION. The subframe bodies made of parts: VERBATIM, FIXED and LPC, with the residual decoder and the
restoration (R103 to R107, R217 to R222, R250 to R257). -/

namespace Sys2Proof.Machine

/-- `count` signed fields of `bps_eff` bits into `x[0 .. count − 1]` (R217, R218, R220); a `bps_eff` above 64, out of R214's
range, is read whole and its low 64 bits kept (DESIGN CHOICE, log entry 31). -/
def readSamples (count : Nat) (s : State) : Out :=
  forRange count 0 (fun i s => withInt s.work.bpsEff s fun v s => writeX i v s) s

/-- `VERBATIM_BODY` (R103, R217). -/
def execVerbatimBody (s : State) : Out := live s fun s => readSamples s.blocksize s

/-! ## The residual (R250 to R257) -/

/-- One residual after the other, from `x[start]` up (R250). -/
def residuals (k : Kind) (count : Nat) (s : State) : Out := forRange count 0 (fun _ s => runLeaf k s) s

/-- Partition `i` (R250, R252): its parameter, its escape width if escaped, its residuals. -/
def partition (order i : Nat) (s : State) : Out :=
  let start := if i = 0 then order else i * s.work.psize
  let stop := (i + 1) * s.work.psize
  let s := s.setWork { s.work with index := start }
  seq (runLeaf (if s.work.method = 0 then .param4 else .param5) s) fun s =>
    if s.work.escaped then seq (runLeaf .escapeWidth s) (residuals .rawResidual (stop - start))
    else residuals .riceWord (stop - start) s

/-- `decode_residual(order)` (R250). -/
def decodeResidual (order : Nat) (s : State) : Out :=
  seq (runLeaf .residualHdr s) fun s => forRange s.work.pcount 0 (partition order) s

/-! ## Restoration (R221) -/

/-- `Σ c[j]·x[i−1−j]` from the `j`-th coefficient on, added to `acc`, every product and sum in 64 bits; `none` is A06
(R221, R226). -/
def accumulate (s : State) (i : Nat) : List Int → Nat → Int → Option Int
  | [], _, acc => some acc
  | c :: cs, j, acc =>
    match i64 (c * s.x (i - 1 - j)) with
    | none => none
    | some p =>
      match i64 (acc + p) with
      | none => none
      | some acc => accumulate s i cs (j + 1) acc

/-- One sample restored: `x[i] <- i64(x[i] + asr(acc, shift))` (R221). -/
def restoreAt (coefs : List Int) (shift i : Nat) (s : State) : Out :=
  match accumulate s i coefs 0 0 with
  | none => raise (.plain .a06) s
  | some acc => writeXI64 i (s.x i + asr acc shift) s

/-- `restore(order, c, shift)`: ascending `i` (R221). -/
def restore (order : Nat) (coefs : List Int) (shift : Nat) (s : State) : Out :=
  forRange (s.blocksize - order) order (restoreAt coefs shift) s

/-! ## FIXED and LPC -/

/-- P12 if the order exceeds the blocksize, before any warmup sample (R222). -/
def checkOrder (order : Nat) (s : State) : Out :=
  if order > s.blocksize then raise (.gotOf .p12 order s.blocksize) s
  else .next (s.setWork { s.work with order := order })

/-- `FIXED_BODY` (R104, R218). -/
def execFixedBody (order : Fin 5) (s : State) : Out :=
  live s fun s =>
    seq (checkOrder order.val s) fun s =>
    seq (readSamples order.val s) fun s =>
    seq (decodeResidual order.val s) fun s =>
    restore order.val (fixedCoef order) 0 s

/-- The LPC parameters: precision, shift (P14 if negative, before the coefficients), coefficients (R105, R220). -/
def readLpcParams (order : Nat) (s : State) : Out :=
  withUint 4 s fun p s =>
  withInt 5 (s.setLpcPrec (p + 1)) fun shift s =>
    let s := s.setLpcShift shift
    if shift < 0 then raise (.got .p14 shift) s
    else forRange order 0 (fun j s => withInt s.lpcPrec.toNat s fun v s => .next (s.setCoef j v)) s

/-- `LPC_BODY` (R105, R220), `order = orderMinus1 + 1`. -/
def execLpcBody (orderMinus1 : BitVec 5) (s : State) : Out :=
  live s fun s =>
    let order := orderMinus1.toNat + 1
    seq (checkOrder order s) fun s =>
    seq (readSamples order s) fun s =>
    seq (readLpcParams order s) fun s =>
    seq (decodeResidual order s) fun s =>
    restore order (s.coefs order) s.lpcShift.toNat s

end Sys2Proof.Machine
end

