-- ==== Sys2Proof/Machine/Commands.lean ====
section
/-! DEFINITION. The three commands, each one atomic transition (R9), and the state machine (R150 to R161). -/

namespace Sys2Proof.Machine

/-! ## decode_marker -/

/-- `decode_marker` (R152). -/
def execDecodeMarker (s : State) : Out :=
  command .decodeMarker s fun s =>
    seq (runLeaf .marker s) fun s => .next (s.setDecState .hasMarker).finish

/-! ## decode_metadata -/

/-- The body the header's type selects (R153). -/
def metadataBody (s : State) : Out :=
  if s.work.metaType = 0 then runLeaf .streaminfoBody s else runLeaf .skippedBody s

/-- `decode_metadata` (R153): `STATE` moves after the body, if the block is the last (R157). -/
def execDecodeMetadata (s : State) : Out :=
  command .decodeMetadata s fun s =>
    seq (runLeaf .metaHdr s) fun s =>
    seq (metadataBody s) fun s =>
    .next (if s.work.metaLast then s.setDecState .hasMetadata else s).finish

/-! ## decode_audio -/

/-- The blocksize extension, if the code has one (R97, R187). -/
def blocksizeExtension (s : State) : Out :=
  if s.work.bsCode = 6 then runLeaf .blocksizeExt8 s
  else if s.work.bsCode = 7 then runLeaf .blocksizeExt16 s
  else .next s

/-- The rate extension, if the code has one (R98, R188). -/
def rateExtension (s : State) : Out :=
  if s.work.srCode = 12 then runLeaf .rateExt8Khz s
  else if s.work.srCode = 13 then runLeaf .rateExt16Hz s
  else if s.work.srCode = 14 then runLeaf .rateExt16Dhz s
  else .next s

/-- `parse_frame_header` (R180). -/
def parseFrameHeader (s : State) : Out :=
  seq (runLeaf .framePreamble s) fun s =>
  seq (runLeaf .codedNumber s) fun s =>
  seq (blocksizeExtension s) fun s =>
  seq (rateExtension s) fun s =>
  seq (runLeaf .crc8 s) fun s =>
  writeFrameRegs s

/-- The wasted-bits count, if the flag is set (R213). -/
def wastedBits (s : State) : Out := if s.work.wastedFlag then runLeaf .wastedUnary s else .next s

/-- The body the type selects (R215). A reserved type was raised at the header and never comes here; that it would be
taken as FIXED is the model's choice (DESIGN CHOICE, log entry 30). -/
def subframeBody (s : State) : Out :=
  if s.work.type = 0 then runLeaf .constantBody s
  else if s.work.type = 1 then execVerbatimBody s
  else if s.work.type < 32 then execFixedBody s.elemCtx.fixedOrder s
  else execLpcBody s.elemCtx.lpcOrderMinus1 s

/-- `decode_subframe(ch)` (R210). -/
def decodeSubframe (ch : Nat) (s : State) : Out :=
  seq (runLeaf .subframeHdr (s.setWork { s.work with ch := ch })) fun s =>
  seq (wastedBits s) fun s =>
  seq (effectiveWidth s) fun s =>
  seq (subframeBody s) fun s =>
  shiftWasted s

/-- `frame_end` (R275). -/
def frameEnd (s : State) : Out := seq (runLeaf .padding s) fun s => runLeaf .crc16 s

/-- One frame (R158, R159). -/
def decodeFrame (s : State) : Out :=
  seq (parseFrameHeader s) fun s =>
  seq (forRange s.fr.nch.toNat 0 decodeSubframe s.clearSamples) fun s =>
  seq (decorrelate s) fun s =>
  frameEnd s

/-- `decode_audio` (R158): `F_VALID` cleared first; at the end of the stream `COMPLETE` and no frame. -/
def execDecodeAudio (s : State) : Out :=
  command .decodeAudio s fun s =>
    let s := s.setFrValid false
    if s.eos then .next (s.setDecState .complete).finish
    else seq (decodeFrame s) fun s => .next (s.setFrValid true).finish

/-- `command_3_unused`: the number 3 of the command port is unused and has no effect to give (R122). -/
def execCommand3Unused (_s : State) : Out := .refused .unusedCommand

end Sys2Proof.Machine
end

