-- ==== Sys2Proof/Machine/Dispatch.lean ====
section
/-! DEFINITION. One arm per constructor of `Instr`: its meaning. -/

namespace Sys2Proof.Machine

def exec (i : Instr) (s : State) : Host.Outcome State Fault Refusal :=
  match i with
  | .decodeMarker => Sys2Proof.Machine.execDecodeMarker s
  | .decodeMetadata => Sys2Proof.Machine.execDecodeMetadata s
  | .decodeAudio => Sys2Proof.Machine.execDecodeAudio s
  | .command3Unused => Sys2Proof.Machine.execCommand3Unused s
  | .getUint n => Sys2Proof.Machine.execGetUint n s
  | .getInt n => Sys2Proof.Machine.execGetInt n s
  | .getByte => Sys2Proof.Machine.execGetByte s
  | .align => Sys2Proof.Machine.execAlign s
  | .clz8 b => Sys2Proof.Machine.execClz8 b s
  | .eos => Sys2Proof.Machine.execEos s
  | .getUnary => Sys2Proof.Machine.execGetUnary s
  | .skipBytes n => Sys2Proof.Machine.execSkipBytes n s
  | .marker => Sys2Proof.Machine.execMarker s
  | .metaStreaminfo last length => Sys2Proof.Machine.execMetaStreaminfo last length s
  | .metaSkip6 last low length => Sys2Proof.Machine.execMetaSkip6 last low length s
  | .metaSkip5 last low length => Sys2Proof.Machine.execMetaSkip5 last low length s
  | .metaSkip4 last low length => Sys2Proof.Machine.execMetaSkip4 last low length s
  | .metaSkip3 last low length => Sys2Proof.Machine.execMetaSkip3 last low length s
  | .metaSkip2 last low length => Sys2Proof.Machine.execMetaSkip2 last low length s
  | .metaSkip1 last low length => Sys2Proof.Machine.execMetaSkip1 last low length s
  | .metaSkip0 last length => Sys2Proof.Machine.execMetaSkip0 last length s
  | .streaminfoBody minBlock maxBlock minFrame maxFrame rate channelsMinus1 bpsMinus1 total md5 => Sys2Proof.Machine.execStreaminfoBody minBlock maxBlock minFrame maxFrame rate channelsMinus1 bpsMinus1 total md5 s
  | .skippedBody length => Sys2Proof.Machine.execSkippedBody length s
  | .framePreamble strategy bs sr ca ss => Sys2Proof.Machine.execFramePreamble strategy bs sr ca ss s
  | .bsCode0 => Sys2Proof.Machine.execBsCode0 s
  | .bsCode1 => Sys2Proof.Machine.execBsCode1 s
  | .bsCode2 => Sys2Proof.Machine.execBsCode2 s
  | .bsCode3 => Sys2Proof.Machine.execBsCode3 s
  | .bsCode4 => Sys2Proof.Machine.execBsCode4 s
  | .bsCode5 => Sys2Proof.Machine.execBsCode5 s
  | .bsCode6 => Sys2Proof.Machine.execBsCode6 s
  | .bsCode7 => Sys2Proof.Machine.execBsCode7 s
  | .bsCode8 => Sys2Proof.Machine.execBsCode8 s
  | .bsCode9 => Sys2Proof.Machine.execBsCode9 s
  | .bsCode10 => Sys2Proof.Machine.execBsCode10 s
  | .bsCode11 => Sys2Proof.Machine.execBsCode11 s
  | .bsCode12 => Sys2Proof.Machine.execBsCode12 s
  | .bsCode13 => Sys2Proof.Machine.execBsCode13 s
  | .bsCode14 => Sys2Proof.Machine.execBsCode14 s
  | .bsCode15 => Sys2Proof.Machine.execBsCode15 s
  | .srCode0 => Sys2Proof.Machine.execSrCode0 s
  | .srCode1 => Sys2Proof.Machine.execSrCode1 s
  | .srCode2 => Sys2Proof.Machine.execSrCode2 s
  | .srCode3 => Sys2Proof.Machine.execSrCode3 s
  | .srCode4 => Sys2Proof.Machine.execSrCode4 s
  | .srCode5 => Sys2Proof.Machine.execSrCode5 s
  | .srCode6 => Sys2Proof.Machine.execSrCode6 s
  | .srCode7 => Sys2Proof.Machine.execSrCode7 s
  | .srCode8 => Sys2Proof.Machine.execSrCode8 s
  | .srCode9 => Sys2Proof.Machine.execSrCode9 s
  | .srCode10 => Sys2Proof.Machine.execSrCode10 s
  | .srCode11 => Sys2Proof.Machine.execSrCode11 s
  | .srCode12 => Sys2Proof.Machine.execSrCode12 s
  | .srCode13 => Sys2Proof.Machine.execSrCode13 s
  | .srCode14 => Sys2Proof.Machine.execSrCode14 s
  | .srCode15 => Sys2Proof.Machine.execSrCode15 s
  | .caCode0 => Sys2Proof.Machine.execCaCode0 s
  | .caCode1 => Sys2Proof.Machine.execCaCode1 s
  | .caCode2 => Sys2Proof.Machine.execCaCode2 s
  | .caCode3 => Sys2Proof.Machine.execCaCode3 s
  | .caCode4 => Sys2Proof.Machine.execCaCode4 s
  | .caCode5 => Sys2Proof.Machine.execCaCode5 s
  | .caCode6 => Sys2Proof.Machine.execCaCode6 s
  | .caCode7 => Sys2Proof.Machine.execCaCode7 s
  | .caCode8 => Sys2Proof.Machine.execCaCode8 s
  | .caCode9 => Sys2Proof.Machine.execCaCode9 s
  | .caCode10 => Sys2Proof.Machine.execCaCode10 s
  | .caCode11 => Sys2Proof.Machine.execCaCode11 s
  | .caCode12 => Sys2Proof.Machine.execCaCode12 s
  | .caCode13 => Sys2Proof.Machine.execCaCode13 s
  | .caCode14 => Sys2Proof.Machine.execCaCode14 s
  | .caCode15 => Sys2Proof.Machine.execCaCode15 s
  | .ssCode0 => Sys2Proof.Machine.execSsCode0 s
  | .ssCode1 => Sys2Proof.Machine.execSsCode1 s
  | .ssCode2 => Sys2Proof.Machine.execSsCode2 s
  | .ssCode3 => Sys2Proof.Machine.execSsCode3 s
  | .ssCode4 => Sys2Proof.Machine.execSsCode4 s
  | .ssCode5 => Sys2Proof.Machine.execSsCode5 s
  | .ssCode6 => Sys2Proof.Machine.execSsCode6 s
  | .ssCode7 => Sys2Proof.Machine.execSsCode7 s
  | .codedNumberK000 x => Sys2Proof.Machine.execCodedNumberK000 x s
  | .codedNumberK080 x => Sys2Proof.Machine.execCodedNumberK080 x s
  | .codedNumberK1C0 x following => Sys2Proof.Machine.execCodedNumberK1C0 x following s
  | .codedNumberK2E0 x following => Sys2Proof.Machine.execCodedNumberK2E0 x following s
  | .codedNumberK3F0 x following => Sys2Proof.Machine.execCodedNumberK3F0 x following s
  | .codedNumberK4F8 x following => Sys2Proof.Machine.execCodedNumberK4F8 x following s
  | .codedNumberK5FC x following => Sys2Proof.Machine.execCodedNumberK5FC x following s
  | .codedNumberK6FE following => Sys2Proof.Machine.execCodedNumberK6FE following s
  | .codedNumberK7FF following => Sys2Proof.Machine.execCodedNumberK7FF following s
  | .blocksizeExt8 v => Sys2Proof.Machine.execBlocksizeExt8 v s
  | .blocksizeExt16 v => Sys2Proof.Machine.execBlocksizeExt16 v s
  | .rateExt8Khz v => Sys2Proof.Machine.execRateExt8Khz v s
  | .rateExt16Hz v => Sys2Proof.Machine.execRateExt16Hz v s
  | .rateExt16Dhz v => Sys2Proof.Machine.execRateExt16Dhz v s
  | .crc8 v => Sys2Proof.Machine.execCrc8 v s
  | .subframeConstant zero wasted => Sys2Proof.Machine.execSubframeConstant zero wasted s
  | .subframeVerbatim zero wasted => Sys2Proof.Machine.execSubframeVerbatim zero wasted s
  | .subframeReserved2To3 zero x => Sys2Proof.Machine.execSubframeReserved2To3 zero x s
  | .subframeReserved4To7 zero x => Sys2Proof.Machine.execSubframeReserved4To7 zero x s
  | .subframeFixed0 zero wasted => Sys2Proof.Machine.execSubframeFixed0 zero wasted s
  | .subframeFixed1 zero wasted => Sys2Proof.Machine.execSubframeFixed1 zero wasted s
  | .subframeFixed2 zero wasted => Sys2Proof.Machine.execSubframeFixed2 zero wasted s
  | .subframeFixed3 zero wasted => Sys2Proof.Machine.execSubframeFixed3 zero wasted s
  | .subframeFixed4 zero wasted => Sys2Proof.Machine.execSubframeFixed4 zero wasted s
  | .subframeReserved13 zero => Sys2Proof.Machine.execSubframeReserved13 zero s
  | .subframeReserved14To15 zero x => Sys2Proof.Machine.execSubframeReserved14To15 zero x s
  | .subframeReserved16To31 zero x => Sys2Proof.Machine.execSubframeReserved16To31 zero x s
  | .subframeLpc zero orderMinus1 wasted => Sys2Proof.Machine.execSubframeLpc zero orderMinus1 wasted s
  | .wastedUnary w => Sys2Proof.Machine.execWastedUnary w s
  | .constantBody width v => Sys2Proof.Machine.execConstantBody width v s
  | .verbatimBody => Sys2Proof.Machine.execVerbatimBody s
  | .fixedBody order => Sys2Proof.Machine.execFixedBody order s
  | .lpcBody orderMinus1 => Sys2Proof.Machine.execLpcBody orderMinus1 s
  | .residualMethod0 po => Sys2Proof.Machine.execResidualMethod0 po s
  | .residualMethod1 po => Sys2Proof.Machine.execResidualMethod1 po s
  | .residualMethod2 => Sys2Proof.Machine.execResidualMethod2 s
  | .residualMethod3 => Sys2Proof.Machine.execResidualMethod3 s
  | .param4RiceK0 => Sys2Proof.Machine.execParam4RiceK0 s
  | .param4RiceK1 => Sys2Proof.Machine.execParam4RiceK1 s
  | .param4RiceK2 => Sys2Proof.Machine.execParam4RiceK2 s
  | .param4RiceK3 => Sys2Proof.Machine.execParam4RiceK3 s
  | .param4RiceK4 => Sys2Proof.Machine.execParam4RiceK4 s
  | .param4RiceK5 => Sys2Proof.Machine.execParam4RiceK5 s
  | .param4RiceK6 => Sys2Proof.Machine.execParam4RiceK6 s
  | .param4RiceK7 => Sys2Proof.Machine.execParam4RiceK7 s
  | .param4RiceK8 => Sys2Proof.Machine.execParam4RiceK8 s
  | .param4RiceK9 => Sys2Proof.Machine.execParam4RiceK9 s
  | .param4RiceK10 => Sys2Proof.Machine.execParam4RiceK10 s
  | .param4RiceK11 => Sys2Proof.Machine.execParam4RiceK11 s
  | .param4RiceK12 => Sys2Proof.Machine.execParam4RiceK12 s
  | .param4RiceK13 => Sys2Proof.Machine.execParam4RiceK13 s
  | .param4RiceK14 => Sys2Proof.Machine.execParam4RiceK14 s
  | .param4Escape => Sys2Proof.Machine.execParam4Escape s
  | .param5RiceK0 => Sys2Proof.Machine.execParam5RiceK0 s
  | .param5RiceK1 => Sys2Proof.Machine.execParam5RiceK1 s
  | .param5RiceK2 => Sys2Proof.Machine.execParam5RiceK2 s
  | .param5RiceK3 => Sys2Proof.Machine.execParam5RiceK3 s
  | .param5RiceK4 => Sys2Proof.Machine.execParam5RiceK4 s
  | .param5RiceK5 => Sys2Proof.Machine.execParam5RiceK5 s
  | .param5RiceK6 => Sys2Proof.Machine.execParam5RiceK6 s
  | .param5RiceK7 => Sys2Proof.Machine.execParam5RiceK7 s
  | .param5RiceK8 => Sys2Proof.Machine.execParam5RiceK8 s
  | .param5RiceK9 => Sys2Proof.Machine.execParam5RiceK9 s
  | .param5RiceK10 => Sys2Proof.Machine.execParam5RiceK10 s
  | .param5RiceK11 => Sys2Proof.Machine.execParam5RiceK11 s
  | .param5RiceK12 => Sys2Proof.Machine.execParam5RiceK12 s
  | .param5RiceK13 => Sys2Proof.Machine.execParam5RiceK13 s
  | .param5RiceK14 => Sys2Proof.Machine.execParam5RiceK14 s
  | .param5RiceK15 => Sys2Proof.Machine.execParam5RiceK15 s
  | .param5RiceK16 => Sys2Proof.Machine.execParam5RiceK16 s
  | .param5RiceK17 => Sys2Proof.Machine.execParam5RiceK17 s
  | .param5RiceK18 => Sys2Proof.Machine.execParam5RiceK18 s
  | .param5RiceK19 => Sys2Proof.Machine.execParam5RiceK19 s
  | .param5RiceK20 => Sys2Proof.Machine.execParam5RiceK20 s
  | .param5RiceK21 => Sys2Proof.Machine.execParam5RiceK21 s
  | .param5RiceK22 => Sys2Proof.Machine.execParam5RiceK22 s
  | .param5RiceK23 => Sys2Proof.Machine.execParam5RiceK23 s
  | .param5RiceK24 => Sys2Proof.Machine.execParam5RiceK24 s
  | .param5RiceK25 => Sys2Proof.Machine.execParam5RiceK25 s
  | .param5RiceK26 => Sys2Proof.Machine.execParam5RiceK26 s
  | .param5RiceK27 => Sys2Proof.Machine.execParam5RiceK27 s
  | .param5RiceK28 => Sys2Proof.Machine.execParam5RiceK28 s
  | .param5RiceK29 => Sys2Proof.Machine.execParam5RiceK29 s
  | .param5RiceK30 => Sys2Proof.Machine.execParam5RiceK30 s
  | .param5Escape => Sys2Proof.Machine.execParam5Escape s
  | .escapeWidth n => Sys2Proof.Machine.execEscapeWidth n s
  | .rawResidual width v => Sys2Proof.Machine.execRawResidual width v s
  | .riceWord k q r => Sys2Proof.Machine.execRiceWord k q r s
  | .padding width v => Sys2Proof.Machine.execPadding width v s
  | .crc16 v => Sys2Proof.Machine.execCrc16 v s

end Sys2Proof.Machine
end

