-- ==== Sys2Proof/Machine/Step.lean ====
section
/-! DEFINITION. One step: the next request of the port is taken off and run. With no request the block is idle and
holds its state (R305). -/

namespace Sys2Proof.Machine

/-- The instruction a request stands for, or the fault that reading it from the stream raises; construction is no
instruction. -/
def State.fetch (s : State) (r : Request) : Except Raise Instr := fetchRequest s r

def step (s : State) : Host.Outcome State Fault Refusal :=
  match s.port with
  | [] => .next s
  | .construct stream capacity :: rest => reconstruct stream capacity (s.setPort rest)
  | r :: rest =>
    match State.fetch (s.setPort rest) r with
    | .ok i => exec i (s.setPort rest)
    | .error e => live (s.setPort rest) (raise e)

def State.withFetchWord (s : State) (nbits w : Nat) : State := placeWord s nbits w

end Sys2Proof.Machine
end

