-- ==== Sys2Proof/Machine/Accessors.lean ====
section
/-! DEFINITION. What the host reads between commands (R33): each accessor gives the register where R33 specifies it and
a draw elsewhere, `k` being the draw of that read. -/

namespace Sys2Proof.Machine

/-- The current state: always (R33). -/
def readState (s : State) : DecState := s.decState

/-- `FAULT`: always (R33). -/
def readFault (s : State) : Bool := s.fault

/-- `FAULT_KIND`: while `FAULT = 1`. -/
def readFaultKind (k : Nat) (s : State) : FaultKind := if s.fault then s.faultKind else Config.freeFaultKind k

/-- `FAULT_CAUSE`: while `FAULT = 1`. -/
def readFaultCause (k : Nat) (s : State) : Cause := if s.fault then s.faultCause else Config.freeFaultCause k

/-- `FAULT_INFO`: while `FAULT = 1`. -/
def readFaultInfo (k : Nat) (s : State) : FaultInfo := if s.fault then s.faultInfo else Config.freeFaultInfo k

/-- `SI_*`: while `FAULT = 0`, `STATE ≥ HAS_METADATA` and `SI_VALID = 1`. -/
def readStreamInfo (k : Nat) (s : State) : StreamInfo := if s.siReadable then s.si else Config.freeStreamInfo k

/-- `F_BLOCKSIZE`: while `FAULT = 0` and `F_VALID = 1`. -/
def readBlocksize (k : Nat) (s : State) : BitVec 17 :=
  if s.frameReadable then s.fr.blocksize else (Config.freeFrameRegs k).blocksize

/-- `F_RATE`: while `FAULT = 0` and `F_VALID = 1`. -/
def readRate (k : Nat) (s : State) : BitVec 20 := if s.frameReadable then s.fr.rate else (Config.freeFrameRegs k).rate

/-- `F_NCH`: while `FAULT = 0` and `F_VALID = 1`. -/
def readChannels (k : Nat) (s : State) : BitVec 2 := if s.frameReadable then s.fr.nch else (Config.freeFrameRegs k).nch

/-- `SB[c][i]`: while `FAULT = 0` and `F_VALID = 1`, for `c < F_NCH` and `i < F_BLOCKSIZE`. -/
def readSample (k c i : Nat) (s : State) : Cell :=
  if s.frameReadable && c < s.fr.nch.toNat && i < s.blocksize then s.cell c i else Config.freeCell k c i

end Sys2Proof.Machine
end

