-- ==== Sys2Proof/Safety.lean ====
section
/-! DEFINITION. The terms in which statements speak of runs: legal states, when a run is over, the host's driver, what a
fault and a command leave, and what an encoder writes (residuals, subframe bodies, whole frames). -/

namespace Sys2Proof.Machine

/-- What a parsed STREAMINFO guarantees (R26, R155). -/
def StreamInfo.legal (capacity : Nat) (i : StreamInfo) : Prop :=
  i.maxBlock.toNat ≤ capacity ∧ 1 ≤ i.channels.toNat ∧ i.channels.toNat ≤ 2 ∧ 1 ≤ i.bps.toNat ∧ i.bps.toNat ≤ 32

/-- What a frame's registers guarantee (R28, R190, R192). -/
def FrameRegs.legal (capacity : Nat) (f : FrameRegs) : Prop :=
  1 ≤ f.blocksize.toNat ∧ f.blocksize.toNat ≤ 65536 ∧ f.blocksize.toNat ≤ capacity ∧ 1 ≤ f.nch.toNat ∧ f.nch.toNat ≤ 2 ∧ f.chAssign.toNat ∈ [0, 1, 8, 9, 10]

/-- The legal states: `N ≥ 1` (R4), `0 ≤ BITPOS ≤ 8·L` (R22), the sample buffer in its canonical form, the kind of a
latched fault that of its cause (R25), and without a fault the registers in the ranges of R26 and R28 where the valid
flags are set. -/
def State.Legal (s : State) : Prop :=
  1 ≤ s.capacity ∧ s.bitpos ≤ s.bitLength ∧ Memory.wf s = true ∧
  (s.fault = true → s.faultKind = causeKind s.faultCause) ∧
  (s.fault = false → s.siValid = true → StreamInfo.legal s.capacity s.si) ∧
  (s.fault = false → s.frValid = true → FrameRegs.legal s.capacity s.fr)

/-- The run is over, successfully (R341). -/
def State.Completed (s : State) : Prop := s.decState = .complete ∧ s.fault = false

/-- The run is over, unsuccessfully (R341). -/
def State.Failed (s : State) : Prop := s.fault = true

/-- The command the driver of R160 issues next, if the run is not over. -/
def driverCommand (s : State) : Option Request :=
  if s.fault then none
  else match s.decState with
  | .init => some (.command 0)
  | .hasMarker => some (.command 1)
  | .hasMetadata => some (.command 2)
  | .complete => none

/-- The driver of R160 for at most `fuel` commands. -/
def drive : Nat → State → Out
  | 0, s => .next s
  | fuel + 1, s =>
    match driverCommand s with
    | none => .next s
    | some r =>
      match step (s.setPort [r]) with
      | .next t => drive fuel t
      | .fault e => .fault e
      | .refused e => .refused e

/-! ## What a fault leaves, what a command leaves -/

/-- `t` is what a fault raised in `s` leaves: the latch set, `STATE`, `STREAM` and `N` as before, `F_VALID` reading 0;
nothing is said of what R295 (4) calls unspecified. -/
def FaultEntry (s t : State) (r : Raise) : Prop :=
  t.fault = true ∧ t.faultKind = causeKind r.cause ∧ t.faultCause = r.cause ∧ t.faultInfo = r.info ∧
  t.decState = s.decState ∧ t.frValidRead = false ∧ t.stream = s.stream ∧ t.capacity = s.capacity ∧
  t.port = s.port ∧ t.result = s.result

/-- The answer is the fault entry of `r` from `s`. -/
def FaultsWith (o : Out) (s : State) (r : Raise) : Prop := ∃ t, o = .next t ∧ FaultEntry s t r

/-- The answer goes on to a state that is `u` but for what is unspecified after every command: the coefficient file,
`LPC_PREC`, `LPC_SHIFT` (R30) and the working registers (R31), with the model's own draw counter. -/
def Returns (o : Out) (u : State) : Prop :=
  ∃ t, o = .next t ∧
    t = { u with draw := t.draw, coef := t.coef, lpcPrec := t.lpcPrec, lpcShift := t.lpcShift, work := t.work }

/-- Channel `ch` of `t` holds the samples `x` in `[lo, hi)`, and every other cell of the buffer reads as in `s`. -/
def Writes (s t : State) (ch lo hi : Nat) (x : Nat → Int) : Prop :=
  ∀ c i, c ≤ 1 →
    (c = ch → lo ≤ i → i < hi → t.sample c i = x i) ∧
    (c ≠ ch ∨ i < lo ∨ hi ≤ i → t.cell c i = s.cell c i)

/-- `n` octets read and dropped, one `get_byte()` at a time (R137). -/
def getBytes : Nat → State → Out
  | 0, s => .next s
  | n + 1, s => seq (exec .getByte s) fun t => getBytes n { t with result := s.result }

/-! ## A frame header as the stream holds it (R95 to R99) -/

/-- The `n`-bit field at bit offset `off` from `BITPOS`. -/
def State.ahead (s : State) (off n : Nat) : Nat := memRead s.stream (s.bitpos + off) n

/-- Following bytes of a coded number with first byte `b`, from the table of R96. -/
def codedFollowing (b : Nat) : Nat :=
  if b < 0xC0 then 0
  else if b < 0xE0 then 1
  else if b < 0xF0 then 2
  else if b < 0xF8 then 3
  else if b < 0xFC then 4
  else if b < 0xFE then 5
  else if b < 0xFF then 6
  else 7

/-- Bits of the blocksize extension for a blocksize code (R97). -/
def blocksizeExtWidth (bs : Nat) : Nat := if bs = 6 then 8 else if bs = 7 then 16 else 0

/-- Bits of the rate extension for a sample-rate code (R98). -/
def rateExtWidth (sr : Nat) : Nat := if sr = 12 then 8 else if sr = 13 ∨ sr = 14 then 16 else 0

/-- The blocksize of a code with the value of its extension field (R112). -/
def tableBlocksize (bs ext : Nat) : Nat :=
  [0, 192, 576, 1152, 2304, 4608, ext + 1, ext + 1, 256, 512, 1024, 2048, 4096, 8192, 16384, 32768].getD bs 0

/-- The rate of a code with `SI_RATE` and the value of its extension field (R113). -/
def tableRate (sr siRate ext : Nat) : Nat :=
  [siRate, 88200, 176400, 192000, 8000, 16000, 22050, 24000, 32000, 44100, 48000, 96000, ext * 1000, ext, ext * 10].getD
    sr 0

/-- The sample size of a code with `SI_BPS` (R114). -/
def tableBps (ss siBps : Nat) : Nat := [siBps, 8, 12, 0, 16, 20, 24, 32].getD ss 0

/-- Bit offset of the blocksize extension of the header at `BITPOS`: after the preamble and the coded number. -/
def State.headerExtOffset (s : State) : Nat := 40 + 8 * codedFollowing (s.ahead 32 8)

/-- Bit offset of the rate extension. -/
def State.headerRateOffset (s : State) : Nat := s.headerExtOffset + blocksizeExtWidth (s.ahead 16 4)

/-- Bits of the whole header at `BITPOS`, the CRC-8 included. -/
def State.headerBits (s : State) : Nat := s.headerRateOffset + rateExtWidth (s.ahead 20 4) + 8

/-- The blocksize the header at `BITPOS` gives. -/
def State.headerBlocksize (s : State) : Nat :=
  tableBlocksize (s.ahead 16 4) (s.ahead s.headerExtOffset (blocksizeExtWidth (s.ahead 16 4)))

/-- The rate the header at `BITPOS` gives. -/
def State.headerRate (s : State) : Nat :=
  tableRate (s.ahead 20 4) s.si.rate.toNat (s.ahead s.headerRateOffset (rateExtWidth (s.ahead 20 4)))

/-- The fixed part of a header in the order of its fields: the bits needed to see each check, whether it is violated, and
its fault (R180, R294). -/
def State.headerChecks (s : State) : List (Nat × Bool × Raise) :=
  [(14, s.ahead 0 14 ≠ 0x3FFE, .gotOf .p02 (s.ahead 0 14) 0x3FFE),
   (15, s.ahead 14 1 ≠ 0, .gotOf .p03 1 0),
   (20, s.ahead 16 4 = 0, .got .p05 0),
   (24, s.ahead 20 4 = 15, .got .p06 15),
   (28, 11 ≤ s.ahead 24 4, .got .a03 (s.ahead 24 4)),
   (28, 2 ≤ s.ahead 24 4 ∧ s.ahead 24 4 ≤ 7, .gotOf .a04 (s.ahead 24 4 + 1) 2),
   (31, s.ahead 28 3 = 3, .got .p07 3),
   (32, s.ahead 31 1 ≠ 0, .gotOf .p04 1 0)]

/-- The first check of a list, in order, whose field is not whole (P11) or whose condition is violated. -/
def State.firstFault (s : State) : List (Nat × Bool × Raise) → Option Raise
  | [] => none
  | (n, bad, r) :: rest =>
    if s.bitLength < s.bitpos + n then some (.plain .p11) else if bad then some r else s.firstFault rest

/-! ## What an encoder writes

A plan is the content of an element as an encoder chooses it; `bits` is what the layouts of R100 to R108 make of it. -/

/-- One partition: Rice-coded residuals with a parameter, or escaped residuals of a width (R107). -/
inductive PartitionPlan where
  | rice (k : Nat) (values : List Int)
  | escaped (width : Nat) (values : List Int)
deriving DecidableEq, Repr

/-- The residuals of the partition. -/
def PartitionPlan.values : PartitionPlan → List Int
  | .rice _ vs => vs
  | .escaped _ vs => vs

/-- The Rice word of a signed value (R108, R123, R254, R255). -/
def riceBits (k : Nat) (v : Int) : List Bool := unaryBits (zigzagInv v / 2 ^ k) ++ bitsOf k (zigzagInv v % 2 ^ k)

/-- Width of a partition's parameter (R117). -/
def paramWidth (method : Nat) : Nat := if method = 0 then 4 else 5

/-- The bits of a partition (R107). -/
def PartitionPlan.bits (method : Nat) : PartitionPlan → List Bool
  | .rice k vs => bitsOf (paramWidth method) k ++ vs.flatMap (riceBits k)
  | .escaped n vs => bitsOf (paramWidth method) (2 ^ paramWidth method - 1) ++ bitsOf 5 n ++ vs.flatMap (signedBits n)

/-- A parameter below the escape value and residuals that fit a cell, or a width that its field holds and residuals that
fit it. -/
def PartitionPlan.legal (method : Nat) : PartitionPlan → Prop
  | .rice k vs => k < 2 ^ paramWidth method - 1 ∧ ∀ v ∈ vs, inRange64 v = true
  | .escaped n vs => n ≤ 31 ∧ ∀ v ∈ vs, fitsSigned n v = true

/-- A residual: the method, the partition order, the partitions (R106). -/
structure ResidualPlan where
  method : Nat
  po : Nat
  parts : List PartitionPlan
deriving DecidableEq, Repr

/-- The residuals of the block, in order. -/
def ResidualPlan.values (p : ResidualPlan) : List Int := p.parts.flatMap PartitionPlan.values

/-- The bits of a residual (R106). -/
def ResidualPlan.bits (p : ResidualPlan) : List Bool :=
  bitsOf 2 p.method ++ bitsOf 4 p.po ++ p.parts.flatMap (PartitionPlan.bits p.method)

/-- A residual that a block of `blocksize` samples with a predictor of order `order` may have (R251, R252, R253). -/
def ResidualPlan.legal (p : ResidualPlan) (order blocksize : Nat) : Prop :=
  p.method ≤ 1 ∧ p.po ≤ 15 ∧ blocksize % 2 ^ p.po = 0 ∧ order ≤ blocksize / 2 ^ p.po ∧ p.parts.length = 2 ^ p.po ∧
  (∀ q ∈ p.parts, q.legal p.method) ∧
  ∀ j, j < p.parts.length →
    (p.parts.getD j (.rice 0 [])).values.length = blocksize / 2 ^ p.po - (if j = 0 then order else 0)

/-- `Σ_{j < m} c[j]·y[i−1−j]` (R219, R221). -/
def predictSum (c : List Int) (y : Nat → Int) (i m : Nat) : Int := ∑ j ∈ Finset.range m, c.getD j 0 * y (i - 1 - j)

/-- The samples `y` of a block are what a predictor restores from its warmup and its residuals, and no product, partial
sum or sample on the way leaves 64 bits (R221, R226). -/
def Predicted (c : List Int) (shift : Nat) (warmup residual : List Int) (blocksize : Nat) (y : Nat → Int) : Prop :=
  (∀ i, i < c.length → y i = warmup.getD i 0) ∧
  ∀ i, c.length ≤ i → i < blocksize →
    y i = residual.getD (i - c.length) 0 + asr (predictSum c y i c.length) shift ∧
    inRange64 (y i) = true ∧
    ∀ m, m < c.length →
      inRange64 (c.getD m 0 * y (i - 1 - m)) = true ∧ inRange64 (predictSum c y i (m + 1)) = true

/-- The body of a subframe (R102 to R105). -/
inductive BodyPlan where
  | constant (v : Int)
  | verbatim (xs : List Int)
  | fixed (order : Fin 5) (warmup : List Int) (residual : ResidualPlan)
  | lpc (orderMinus1 : BitVec 5) (warmup : List Int) (p shift : BitVec 4) (coefs : List Int) (residual : ResidualPlan)
deriving DecidableEq, Repr

/-- The subframe type code (R116). -/
def BodyPlan.type : BodyPlan → Nat
  | .constant _ => 0
  | .verbatim _ => 1
  | .fixed order _ _ => 8 + order.val
  | .lpc orderMinus1 _ _ _ _ _ => 32 + orderMinus1.toNat

/-- The bits of a body whose fields are `width` bits wide; the shift of an LPC body is not negative. -/
def BodyPlan.bits (width : Nat) : BodyPlan → List Bool
  | .constant v => signedBits width v
  | .verbatim xs => xs.flatMap (signedBits width)
  | .fixed _ warmup residual => warmup.flatMap (signedBits width) ++ residual.bits
  | .lpc _ warmup p shift coefs residual =>
    warmup.flatMap (signedBits width) ++ bitsOf 4 p.toNat ++ bitsOf 5 shift.toNat ++
      coefs.flatMap (signedBits (p.toNat + 1)) ++ residual.bits

/-- The body is legal for a block of `blocksize` samples and stands for the samples `y` (R216 to R222). -/
def BodyPlan.produces (width blocksize : Nat) (y : Nat → Int) : BodyPlan → Prop
  | .constant v => fitsSigned width v = true ∧ ∀ i, i < blocksize → y i = v
  | .verbatim xs =>
    xs.length = blocksize ∧ (∀ x ∈ xs, fitsSigned width x = true) ∧ ∀ i, i < blocksize → y i = xs.getD i 0
  | .fixed order warmup residual =>
    order.val ≤ blocksize ∧ warmup.length = order.val ∧ (∀ x ∈ warmup, fitsSigned width x = true) ∧
    residual.legal order.val blocksize ∧ Predicted (fixedCoef order) 0 warmup residual.values blocksize y
  | .lpc orderMinus1 warmup p shift coefs residual =>
    orderMinus1.toNat + 1 ≤ blocksize ∧ warmup.length = orderMinus1.toNat + 1 ∧
    (∀ x ∈ warmup, fitsSigned width x = true) ∧
    coefs.length = orderMinus1.toNat + 1 ∧ (∀ c ∈ coefs, fitsSigned (p.toNat + 1) c = true) ∧
    residual.legal (orderMinus1.toNat + 1) blocksize ∧
    Predicted coefs shift.toNat warmup residual.values blocksize y

/-- A subframe: the ignored bit, the wasted-bits count if flagged, the body (R100). -/
structure SubframePlan where
  zero : Bool
  wasted : Option Nat
  body : BodyPlan
deriving DecidableEq, Repr

/-- The wasted-bits count (R213). -/
def SubframePlan.w (p : SubframePlan) : Nat := p.wasted.getD 0

/-- The bits of a subframe in a frame whose channel has `bps` bits before the wasted ones are taken off (R210). -/
def SubframePlan.bits (bps : Nat) (p : SubframePlan) : List Bool :=
  p.zero :: bitsOf 6 p.body.type ++ p.wasted.isSome :: (p.wasted.elim [] unaryBits) ++ p.body.bits (bps - p.w)

/-- The subframe is legal and leaves the samples `y`, the wasted bits shifted back in (R214, R223). -/
def SubframePlan.leaves (bps blocksize : Nat) (y : Nat → Int) (p : SubframePlan) : Prop :=
  p.w < bps ∧ bps - p.w ≤ 64 ∧
  ∃ x : Nat → Int, p.body.produces (bps - p.w) blocksize x ∧
    ∀ i, i < blocksize → y i = x i * 2 ^ p.w ∧ inRange64 (y i) = true

/-- A frame: the header's fields and the subframes (R90). -/
structure FramePlan where
  strategy : Bool
  bs : BitVec 4
  sr : BitVec 4
  ca : BitVec 4
  ss : BitVec 3
  number : Instr
  blocksizeExt : Nat
  rateExt : Nat
  crc8 : BitVec 8
  sub0 : SubframePlan
  sub1 : Option SubframePlan
  crc16 : BitVec 16
deriving DecidableEq, Repr

/-- The frame's blocksize. -/
def FramePlan.blocksize (p : FramePlan) : Nat := tableBlocksize p.bs.toNat p.blocksizeExt

/-- The sample size of the frame, `SI_BPS` given. -/
def FramePlan.bps (siBps : Nat) (p : FramePlan) : Nat := tableBps p.ss.toNat siBps

/-- The bits of the frame up to its last subframe. -/
def FramePlan.bits (siBps : Nat) (p : FramePlan) : List Bool :=
  encode (.framePreamble p.strategy p.bs p.sr p.ca p.ss) ++ encode p.number ++
  bitsOf (blocksizeExtWidth p.bs.toNat) p.blocksizeExt ++ bitsOf (rateExtWidth p.sr.toNat) p.rateExt ++
  encode (.crc8 p.crc8) ++ p.sub0.bits (p.bps siBps + sideExtra p.ca.toNat 0) ++
  p.sub1.elim [] (SubframePlan.bits (p.bps siBps + sideExtra p.ca.toNat 1))

/-- The samples `(l, r)` that the decorrelation makes of the two channels' subframe samples (R271 to R274). -/
def decorrelated (ca : Nat) (a b : Int) : Int × Int :=
  if ca = 8 then (a, a - b)
  else if ca = 9 then (a + b, b)
  else if ca = 10 then (a - b / 2 + b, a - b / 2)
  else (a, b)

/-- The frame is one the block accepts with a buffer of `n` samples: legal codes, a coded number, as many subframes as
channels. -/
def FramePlan.legal (n : Nat) (p : FramePlan) : Prop :=
  p.bs.toNat ≠ 0 ∧ p.sr.toNat ≠ 15 ∧ p.ca.toNat ∈ [0, 1, 8, 9, 10] ∧ p.ss.toNat ≠ 3 ∧
  p.number.kind? = some .codedNumber ∧ p.blocksizeExt < 2 ^ blocksizeExtWidth p.bs.toNat ∧
  p.rateExt < 2 ^ rateExtWidth p.sr.toNat ∧ p.blocksize ≤ n ∧ (p.sub1 = none ↔ p.ca.toNat = 0)

/-- The samples the frame stands for, channel by channel: those of the subframes, decorrelated, nothing leaving 64
bits on the way. -/
def FramePlan.produces (siBps : Nat) (p : FramePlan) (out0 out1 : Nat → Int) : Prop :=
  ∃ y0 y1 : Nat → Int,
    p.sub0.leaves (p.bps siBps + sideExtra p.ca.toNat 0) p.blocksize y0 ∧
    (∀ q, p.sub1 = some q → q.leaves (p.bps siBps + sideExtra p.ca.toNat 1) p.blocksize y1) ∧
    ∀ i, i < p.blocksize →
      out0 i = (decorrelated p.ca.toNat (y0 i) (y1 i)).1 ∧ out1 i = (decorrelated p.ca.toNat (y0 i) (y1 i)).2 ∧
      (p.sub1 ≠ none → inRange64 (out0 i) = true ∧ inRange64 (out1 i) = true)

end Sys2Proof.Machine
end

