-- ==== Sys2Proof/Certificates/Slice0/Obligations.lean ====
section
/-! DEFINITION. The statements for the provers. A statement about an element says what its meaning does once its operands
are known; `FaultsWith` says that the spec's own error is taken (R295), `Returns` that a command returned `OK`. Where a
call of the bit source returns a value, the model keeps it in `result` (log entry 5). -/

open Sys2Proof Sys2Proof.Machine

/-! ## The bit source -/

/-- R61 (and the sum of R5): position `p` is bit `7 − (p mod 8)` of byte `p / 8`, and a field's first bit is its most
significant one. That a bit behind the last byte is 0 is the model's choice (log entry 27, DESIGN CHOICE). -/
def Obligations.FieldIsMsbFirstSum : Prop :=
  ∀ (bytes : List Byte) (p n : Nat),
    bitAt bytes p = (bytes.getD (p / 8) 0).getLsbD (7 - p % 8) ∧
    memRead bytes p n = ∑ t ∈ Finset.range n, (bitAt bytes (p + t)).toNat * 2 ^ (n - 1 - t)

/-- R130: `get_uint(n)` for every width 0 to 64. -/
def Obligations.GetUintReads : Prop :=
  ∀ (s : State) (n : Nat), s.fault = false → n ≤ 64 →
    (n = 0 → exec (.getUint n) s = .next { s with result := 0 }) ∧
    (0 < n → s.bitpos + n ≤ s.bitLength →
      exec (.getUint n) s =
        .next { s with bitpos := s.bitpos + n, result := (memRead s.stream s.bitpos n : Int) } ∧
      memRead s.stream s.bitpos n < 2 ^ n) ∧
    (0 < n → s.bitLength < s.bitpos + n → FaultsWith (exec (.getUint n) s) s ⟨.p11, ⟨none, none⟩⟩) ∧
    (∀ a b, a + b = n → s.bitpos + n ≤ s.bitLength →
      ∃ t u v : State, exec (.getUint a) s = .next t ∧ exec (.getUint b) t = .next u ∧
        exec (.getUint n) s = .next v ∧ t.result * 2 ^ b + u.result = v.result ∧ u.bitpos = v.bitpos)

/-- R131: `get_int(n)` sign-extends from bit `n − 1`. -/
def Obligations.GetIntSignExtends : Prop :=
  ∀ (s : State) (n : Nat), s.fault = false → n ≤ 64 →
    (n = 0 → exec (.getInt n) s = .next { s with result := 0 }) ∧
    (0 < n → s.bitpos + n ≤ s.bitLength →
      ∃ v : Int, exec (.getInt n) s = .next { s with bitpos := s.bitpos + n, result := v } ∧
        v = (if memRead s.stream s.bitpos n < 2 ^ (n - 1) then (memRead s.stream s.bitpos n : Int)
          else (memRead s.stream s.bitpos n : Int) - 2 ^ n) ∧
        -2 ^ (n - 1) ≤ v ∧ v ≤ 2 ^ (n - 1) - 1) ∧
    (0 < n → s.bitLength < s.bitpos + n → FaultsWith (exec (.getInt n) s) s ⟨.p11, ⟨none, none⟩⟩)

/-- R132, R133, R134, R135: `get_byte()` is `get_uint(8)`, `align()` moves to the next byte boundary, `clz8(b)` counts
the zero bits above the highest 1 bit (8 for 0), `eos()` compares `BITPOS` with `8·L`. -/
def Obligations.GetByteAlignClz8Eos : Prop :=
  ∀ s : State, s.fault = false →
    exec .getByte s = exec (.getUint 8) s ∧
    (s.bitpos + 8 ≤ s.bitLength →
      exec .getByte s = .next { s with bitpos := s.bitpos + 8, result := (memRead s.stream s.bitpos 8 : Int) }) ∧
    (s.bitLength < s.bitpos + 8 → FaultsWith (exec .getByte s) s ⟨.p11, ⟨none, none⟩⟩) ∧
    exec .align s = .next { s with bitpos := s.bitpos + (8 - s.bitpos % 8) % 8 } ∧
    (s.bitpos + (8 - s.bitpos % 8) % 8) % 8 = 0 ∧
    (s.bitpos ≤ 8 * s.stream.length → s.bitpos + (8 - s.bitpos % 8) % 8 ≤ 8 * s.stream.length) ∧
    (∀ b : Byte, ∃ c : Nat, exec (.clz8 b) s = .next { s with result := (c : Int) } ∧
      (b = 0 → c = 8) ∧ (b ≠ 0 → c ≤ 7 ∧ 2 ^ (7 - c) ≤ b.toNat ∧ b.toNat < 2 ^ (8 - c))) ∧
    exec .eos s = .next { s with result := if s.bitpos = 8 * s.stream.length then 1 else 0 }

/-- R136: `get_unary()` counts the 0 bits before the first 1 bit; P11 if there is none. -/
def Obligations.GetUnaryCountsZeros : Prop :=
  ∀ s : State, s.fault = false →
    (∀ q : Nat, s.bitpos + q + 1 ≤ s.bitLength → (∀ i, i < q → bitAt s.stream (s.bitpos + i) = false) →
      bitAt s.stream (s.bitpos + q) = true →
      exec .getUnary s = .next { s with bitpos := s.bitpos + q + 1, result := (q : Int) }) ∧
    ((∀ i, s.bitpos + i < s.bitLength → bitAt s.stream (s.bitpos + i) = false) →
      FaultsWith (exec .getUnary s) s ⟨.p11, ⟨none, none⟩⟩)

/-- R137: `skip_bytes(n)` is `n` calls of `get_byte()` whose octets are dropped. -/
def Obligations.SkipBytesReadsOctets : Prop :=
  ∀ (s : State) (n : Nat), s.fault = false → s.bitpos ≤ s.bitLength →
    exec (.skipBytes n) s = getBytes n s ∧
    (s.bitpos + 8 * n ≤ s.bitLength → exec (.skipBytes n) s = .next { s with bitpos := s.bitpos + 8 * n }) ∧
    (s.bitLength < s.bitpos + 8 * n → FaultsWith (exec (.skipBytes n) s) s ⟨.p11, ⟨none, none⟩⟩)

/-! ## Encoding -/

/-- R90 to R109: the decoder gives back every well-formed element, whatever its operands, wherever the stream holds its
bits and the context agrees. -/
def Obligations.DecodeOfEncode : Prop :=
  ∀ (c : ElemCtx) (k : Kind) (i : Instr) (bytes : List Byte) (pos : Nat),
    i.WellFormed → i.kind? = some k → i.agrees c pos → carries bytes pos (encode i) →
    decodeElem c k ⟨bytes, pos⟩ = .ok i

/-- The other direction: what the decoder accepts is well-formed, of the kind asked for, agrees with the context, and
the stream holds its bits (a skipped body keeps only its length). -/
def Obligations.EncodeOfDecode : Prop :=
  ∀ (c : ElemCtx) (k : Kind) (i : Instr) (bytes : List Byte) (pos : Nat),
    1 ≤ c.bpsEff → c.bpsEff ≤ 64 → c.bitCount ≤ 31 → c.riceParam ≤ 30 → pos ≤ 8 * bytes.length →
    decodeElem c k ⟨bytes, pos⟩ = .ok i →
    i.WellFormed ∧ i.kind? = some k ∧ i.agrees c pos ∧ pos + (encode i).length ≤ 8 * bytes.length ∧
    (k ≠ .skippedBody → carries bytes pos (encode i))

/-- Words written out from the layouts decode to the elements they stand for: the marker of R91, the running header of
R180, a metadata header of R153, subframe headers of R212, a Rice word of R254. -/
def Obligations.DecodedWords : Prop :=
  decodeElem .bare .marker ⟨[0x66, 0x4C, 0x61, 0x43], 0⟩ = .ok .marker ∧
  decodeElem .bare .marker ⟨[0x66, 0x4C, 0x61, 0x58], 0⟩ = .error ⟨.p01, ⟨some (.num 0x664C6158), some (.num 0x664C6143)⟩⟩ ∧
  decodeElem .bare .framePreamble ⟨[0xFF, 0xF8, 0x6D, 0x04], 0⟩ = .ok (.framePreamble false 6 13 0 2) ∧
  decodeElem .bare .metaHdr ⟨[0x01, 0x00, 0x00, 0x03], 0⟩ = .ok (.metaSkip0 false 3) ∧
  decodeElem .bare .subframeHdr ⟨[0x43], 0⟩ = .ok (.subframeLpc false 1 true) ∧
  decodeElem .bare .subframeHdr ⟨[0x82], 0⟩ = .ok (.subframeVerbatim true false) ∧
  decodeElem { ElemCtx.bare with riceParam := 3 } .riceWord ⟨[0b01011000], 0⟩ = .ok (.riceWord 3 1 3)

/-- R122 gives the numbers of the command port, here also read back from the encoder, and calls 3 unused. That 3 is
refused, and refused in every state, is the model's choice (log entry 22, DESIGN CHOICE), no sentence of R122. -/
def Obligations.CommandPortNumbers : Prop :=
  (∀ i ∈ [Instr.decodeMarker, .decodeMetadata, .decodeAudio, .command3Unused],
    decodeCommand (BitVec.ofNat 2 (bitsToNat (encode i))) = i) ∧
  decodeCommand 0 = .decodeMarker ∧ decodeCommand 1 = .decodeMetadata ∧ decodeCommand 2 = .decodeAudio ∧
  ∀ s : State, exec .command3Unused s = .refused .unusedCommand

/-! ## One step, reset, what the host reads -/

/-- A step takes the next request off the port and runs the instruction it stands for: a command by its number, a
bit-source call, or the element that the decoder reads at `BITPOS` in the context the registers give; a violation found
in reading is taken as a fault; with no request the block is idle (R305). The port is the model's own (log entry 2). -/
def Obligations.StepRunsTheDecodedInstruction : Prop :=
  ∀ (s : State) (rest : List Request),
    (∀ n, s.port = .command n :: rest → step s = exec (decodeCommand n) { s with port := rest }) ∧
    (∀ p, s.port = .bitSource p :: rest → step s = exec p.instr { s with port := rest }) ∧
    (∀ k i, s.port = .element k :: rest → decodeElem s.elemCtx k ⟨s.stream, s.bitpos⟩ = .ok i →
      step s = exec i { s with port := rest }) ∧
    (∀ k r, s.port = .element k :: rest → decodeElem s.elemCtx k ⟨s.stream, s.bitpos⟩ = .error r → s.fault = false →
      FaultsWith (step s) { s with port := rest } r) ∧
    (∀ k r, s.port = .element k :: rest → decodeElem s.elemCtx k ⟨s.stream, s.bitpos⟩ = .error r → s.fault = true →
      step s = .next { s with port := rest }) ∧
    (s.port = [] → step s = .next s)

/-- R330, R35: construction gives the state after reset whatever the block did before, and is the way out of a fault;
the requests behind it wait (the port is the model's own, log entry 2). -/
def Obligations.ConstructionResets : Prop :=
  ∀ (s : State) (stream : List Byte) (n : Nat) (rest : List Request),
    s.port = .construct stream n :: rest → 1 ≤ n →
    ∃ t, step s = .next t ∧ t.stream = stream ∧ t.capacity = n ∧ t.decState = .init ∧ t.bitpos = 0 ∧ t.fault = false ∧
      t.siValid = false ∧ t.frValid = false ∧ t.port = rest ∧ t.sb0 = [] ∧ t.sb1 = []

/-- The state after reset is legal, in `INIT` at position 0, without fault, nothing valid, with the default capacity
8192 (R4, R35). -/
def Obligations.ResetIsLegal : Prop :=
  State.reset.Legal ∧ State.reset.decState = .init ∧ State.reset.bitpos = 0 ∧ State.reset.fault = false ∧
  State.reset.siValid = false ∧ State.reset.frValid = false ∧ State.reset.capacity = 8192

/-- R33: under its condition each accessor gives the register; outside it, a value that depends on the draw of the read
alone. -/
def Obligations.HostReadsUnderTheirConditions : Prop :=
  ∀ (s : State) (k : Nat),
    readState s = s.decState ∧ readFault s = s.fault ∧
    (s.fault = true → readFaultKind k s = s.faultKind ∧ readFaultCause k s = s.faultCause ∧
      readFaultInfo k s = s.faultInfo) ∧
    (s.fault = false → readFaultKind k s = Config.freeFaultKind k ∧ readFaultCause k s = Config.freeFaultCause k ∧
      readFaultInfo k s = Config.freeFaultInfo k) ∧
    (s.fault = false ∧ (s.decState = .hasMetadata ∨ s.decState = .complete) ∧ s.siValid = true →
      readStreamInfo k s = s.si) ∧
    (¬(s.fault = false ∧ (s.decState = .hasMetadata ∨ s.decState = .complete) ∧ s.siValid = true) →
      readStreamInfo k s = Config.freeStreamInfo k) ∧
    (s.fault = false ∧ s.frValid = true → readBlocksize k s = s.fr.blocksize ∧ readRate k s = s.fr.rate ∧
      readChannels k s = s.fr.nch ∧
      ∀ c i, (c < s.fr.nch.toNat ∧ i < s.fr.blocksize.toNat → readSample k c i s = s.cell c i) ∧
        (¬(c < s.fr.nch.toNat ∧ i < s.fr.blocksize.toNat) → readSample k c i s = Config.freeCell k c i)) ∧
    (¬(s.fault = false ∧ s.frValid = true) → readBlocksize k s = (Config.freeFrameRegs k).blocksize ∧
      readRate k s = (Config.freeFrameRegs k).rate ∧ readChannels k s = (Config.freeFrameRegs k).nch ∧
      ∀ c i, readSample k c i s = Config.freeCell k c i)

/-! ## Faults -/

/-- R295: whatever instruction raises an error, the latch is set with the kind of its cause, `STATE`, `STREAM` and `N`
stay, `F_VALID` reads 0 and no value is returned. -/
def Obligations.EveryFaultEntry : Prop :=
  (∀ (i : Instr) (s t : State), s.fault = false → exec i s = .next t → t.fault = true →
    t.faultKind = causeKind t.faultCause ∧ t.decState = s.decState ∧ t.frValidRead = false ∧ t.stream = s.stream ∧
    t.capacity = s.capacity ∧ t.port = s.port ∧ t.result = s.result) ∧
  (∀ c ∈ [Cause.p01, .p02, .p03, .p04, .p05, .p06, .p07, .p08, .p09, .p10, .p11, .p12, .p13, .p14],
    causeKind c = .protocolError) ∧
  ∀ c ∈ [Cause.a01, .a02, .a03, .a04, .a05, .a06, .a07], causeKind c = .assertionError

/-- R161 says of a command under a latched fault that it consumes nothing, changes nothing and returns the latched fault
again. That a bit-source call and a single element are stopped in the same way is the model's inference (log entry 16,
DEDUCED), the port that the step reads and its requests are the model's own (log entry 2, DESIGN CHOICE), and the unused
command number, refused under a fault too, is log entry 22 (DESIGN CHOICE). -/
def Obligations.LatchedFaultIsReturnedAgain : Prop :=
  ∀ s : State, s.fault = true →
    (∀ i : Instr, i ≠ .command3Unused → exec i s = .next s) ∧
    s.outcome = some (s.faultKind, s.faultCause, s.faultInfo) ∧
    ∀ t : State, (∀ stream n rest, s.port ≠ .construct stream n :: rest) → step s = .next t → t.outcome = s.outcome

/-- R296: no step but a construction clears a fault; until then a step only takes a request off the port. -/
def Obligations.OnlyConstructionClearsTheFault : Prop :=
  ∀ s t : State, s.fault = true → (∀ stream n rest, s.port ≠ .construct stream n :: rest) → step s = .next t →
    t = { s with port := s.port.tail }

/-- R150: a command is accepted only without a latched fault and in its legal states; outside them it changes nothing but
the latch: A07 with the command and `STATE`; inside them it never ends with A07. -/
def Obligations.IllegalCommandIsGuarded : Prop :=
  ∀ s : State,
    (s.fault = true → ∀ i ∈ [Instr.decodeMarker, .decodeMetadata, .decodeAudio], exec i s = .next s) ∧
    (s.fault = false →
      (s.decState ≠ .init → exec .decodeMarker s = .next { s with
        fault := true, faultKind := .assertionError, faultCause := .a07,
        faultInfo := ⟨some (.cmd .decodeMarker), some (.st s.decState)⟩ }) ∧
      (s.decState ≠ .hasMarker → exec .decodeMetadata s = .next { s with
        fault := true, faultKind := .assertionError, faultCause := .a07,
        faultInfo := ⟨some (.cmd .decodeMetadata), some (.st s.decState)⟩ }) ∧
      (s.decState = .init ∨ s.decState = .hasMarker → exec .decodeAudio s = .next { s with
        fault := true, faultKind := .assertionError, faultCause := .a07,
        faultInfo := ⟨some (.cmd .decodeAudio), some (.st s.decState)⟩ }) ∧
      ∀ t : State, t.fault = true →
        (s.decState = .init → exec .decodeMarker s = .next t → t.faultCause ≠ .a07) ∧
        (s.decState = .hasMarker → exec .decodeMetadata s = .next t → t.faultCause ≠ .a07) ∧
        (s.decState = .hasMetadata ∨ s.decState = .complete → exec .decodeAudio s = .next t → t.faultCause ≠ .a07))

/-! ## The state machine and whole-machine rules -/

/-- R151: the complete transition relation of `STATE`, over steps. The premise is the invariant of
`CompleteMeansAtTheEnd`. -/
def Obligations.StateMachine : Prop :=
  ∀ (s t : State) (r : Request) (rest : List Request), s.port = r :: rest → step s = .next t →
    (s.decState = .complete → s.fault = false → s.eos = true) →
    (∀ stream n, r ≠ .construct stream n) →
    ((s.fault = true ∨ t.fault = true ∨ (∀ n, r ≠ .command n)) → t.decState = s.decState) ∧
    (∀ n, r = .command n → s.fault = false → t.fault = false →
      (s.decState = .init ∧ n = 0 ∧ t.decState = .hasMarker) ∨
      (s.decState = .hasMarker ∧ n = 1 ∧ memRead s.stream s.bitpos 1 = 0 ∧ t.decState = .hasMarker) ∨
      (s.decState = .hasMarker ∧ n = 1 ∧ memRead s.stream s.bitpos 1 = 1 ∧ t.decState = .hasMetadata) ∨
      (s.decState = .hasMetadata ∧ n = 2 ∧ s.eos = false ∧ t.frValid = true ∧ t.decState = .hasMetadata) ∨
      (s.decState = .hasMetadata ∧ n = 2 ∧ s.eos = true ∧ t.decState = .complete) ∨
      (s.decState = .complete ∧ n = 2 ∧ s.eos = true ∧ t.decState = .complete))

/-- R9, R340, R68: each of the three commands comes to an end in a next state, from every state: it returns, or it
takes a fault of the spec, and never addresses a cell beyond `N`. -/
def Obligations.EveryCommandAnswers : Prop :=
  ∀ s : State, ∀ i ∈ [Instr.decodeMarker, .decodeMetadata, .decodeAudio], ∃ t, exec i s = .next t

/-- Every step keeps the legal states: `BITPOS` within `8·L` (R22), the sample buffer's canonical form (log entry 7), the
kind of a latched fault that of its cause (R25), and the registers' ranges where they are valid (R26, R28). -/
def Obligations.StepKeepsLegal : Prop := ∀ s t : State, s.Legal → step s = .next t → t.Legal

/-- R22: `BITPOS` only ever increases and stays within `8·L`, over every request but construction; and a command that
starts at a byte boundary and succeeds ends at one. -/
def Obligations.BitposOnlyIncreases : Prop :=
  ∀ (s t : State) (r : Request) (rest : List Request), s.port = r :: rest → step s = .next t → t.fault = false →
    (∀ stream n, r ≠ .construct stream n) → s.bitpos ≤ s.bitLength →
    s.bitpos ≤ t.bitpos ∧ t.bitpos ≤ s.bitLength ∧
    (∀ n, r = .command n → s.bitpos % 8 = 0 → t.bitpos % 8 = 0)

/-- R341, R76: from states in which `COMPLETE` without a fault means that the whole stream was consumed, every step leads
to such a state. -/
def Obligations.CompleteMeansAtTheEnd : Prop :=
  ∀ s t : State, s.bitpos ≤ s.bitLength → (s.decState = .complete → s.fault = false → s.bitpos = s.bitLength) →
    step s = .next t → t.decState = .complete → t.fault = false → t.bitpos = t.bitLength

/-- R26, R28, R29, R21: no instruction changes `STREAM` or `N`; `SI_*` is written by `decode_metadata` alone among the
commands; `F_*` and `SB` by `decode_audio` alone. -/
def Obligations.EachGroupHasItsCommand : Prop :=
  (∀ (i : Instr) (s t : State), exec i s = .next t → t.stream = s.stream ∧ t.capacity = s.capacity) ∧
  (∀ (i : Instr) (s t : State), i ∈ [Instr.decodeMarker, .decodeAudio] → exec i s = .next t → t.fault = false →
    t.si = s.si ∧ t.siValid = s.siValid) ∧
  ∀ (i : Instr) (s t : State), i ∈ [Instr.decodeMarker, .decodeMetadata] → exec i s = .next t → t.fault = false →
    t.fr = s.fr ∧ t.frValid = s.frValid ∧ ∀ c i, t.cell c i = s.cell c i

/-- R332, R340, R341: with the driver of R160 every run ends, on every stream and with every capacity, within `L + 3`
commands: completed with the whole stream consumed, or failed. -/
def Obligations.EveryRunEnds : Prop :=
  ∀ (stream : List Byte) (n : Nat), 1 ≤ n →
    ∃ t, drive (stream.length + 3) (State.construct stream n) = .next t ∧
      (t.Completed ∧ t.bitpos = t.bitLength ∨ t.Failed)

/-! ## The commands -/

/-- R152: `decode_marker`. -/
def Obligations.DecodeMarkerChecksTheMarker : Prop :=
  ∀ s : State, s.fault = false → s.decState = .init →
    (s.bitpos + 32 ≤ s.bitLength → s.ahead 0 32 = 0x664C6143 →
      Returns (exec .decodeMarker s) { s with bitpos := s.bitpos + 32, decState := .hasMarker }) ∧
    (s.bitpos + 32 ≤ s.bitLength → s.ahead 0 32 ≠ 0x664C6143 →
      FaultsWith (exec .decodeMarker s) s ⟨.p01, ⟨some (.num (s.ahead 0 32)), some (.num 0x664C6143)⟩⟩) ∧
    (s.bitLength < s.bitpos + 32 → FaultsWith (exec .decodeMarker s) s ⟨.p11, ⟨none, none⟩⟩)

/-- R156 (with R153, R157): a block of any other type is skipped whole, and `STATE` moves if it is the last. -/
def Obligations.DecodeMetadataSkipsOtherTypes : Prop :=
  ∀ s : State, s.fault = false → s.decState = .hasMarker →
    (s.bitLength < s.bitpos + 32 → FaultsWith (exec .decodeMetadata s) s ⟨.p11, ⟨none, none⟩⟩) ∧
    (s.bitpos + 32 + 8 * s.ahead 8 24 ≤ s.bitLength → s.ahead 1 7 ≠ 0 →
      Returns (exec .decodeMetadata s) { s with
        bitpos := s.bitpos + 32 + 8 * s.ahead 8 24
        decState := if s.ahead 0 1 = 1 then .hasMetadata else .hasMarker }) ∧
    (s.bitpos + 32 ≤ s.bitLength → s.bitLength < s.bitpos + 32 + 8 * s.ahead 8 24 → s.ahead 1 7 ≠ 0 →
      FaultsWith (exec .decodeMetadata s) s ⟨.p11, ⟨none, none⟩⟩)

/-- R154, R93 (with R153, R157): a block of type 0 fills `SI_*`, its length field ignored. -/
def Obligations.DecodeMetadataParsesStreaminfo : Prop :=
  ∀ s : State, s.fault = false → s.decState = .hasMarker → s.ahead 1 7 = 0 → s.bitpos + 304 ≤ s.bitLength →
    s.ahead 48 16 ≤ s.capacity → s.ahead 132 3 + 1 ≤ 2 →
    Returns (exec .decodeMetadata s) { s with
      bitpos := s.bitpos + 304
      decState := if s.ahead 0 1 = 1 then .hasMetadata else .hasMarker
      siValid := true
      si := { minBlock := BitVec.ofNat 16 (s.ahead 32 16)
              maxBlock := BitVec.ofNat 16 (s.ahead 48 16)
              minFrame := BitVec.ofNat 24 (s.ahead 64 24)
              maxFrame := BitVec.ofNat 24 (s.ahead 88 24)
              rate := BitVec.ofNat 20 (s.ahead 112 20)
              channels := BitVec.ofNat 4 (s.ahead 132 3 + 1)
              bps := BitVec.ofNat 6 (s.ahead 135 5 + 1)
              total := BitVec.ofNat 36 (s.ahead 140 36) } }

/-- R155: A02 as soon as `max_block_size` is read, A01 as soon as the channel count is read, P11 where the body is cut
short before the field that would fault, and no other check. -/
def Obligations.StreaminfoChecksInOrder : Prop :=
  ∀ s : State, s.fault = false → s.decState = .hasMarker → s.ahead 1 7 = 0 → s.bitpos + 32 ≤ s.bitLength →
    (s.bitLength < s.bitpos + 64 → FaultsWith (exec .decodeMetadata s) s ⟨.p11, ⟨none, none⟩⟩) ∧
    (s.bitpos + 64 ≤ s.bitLength → s.capacity < s.ahead 48 16 →
      FaultsWith (exec .decodeMetadata s) s ⟨.a02, ⟨some (.num (s.ahead 48 16)), some (.num s.capacity)⟩⟩) ∧
    (s.bitpos + 64 ≤ s.bitLength → s.bitLength < s.bitpos + 135 → s.ahead 48 16 ≤ s.capacity →
      FaultsWith (exec .decodeMetadata s) s ⟨.p11, ⟨none, none⟩⟩) ∧
    (s.bitpos + 135 ≤ s.bitLength → s.ahead 48 16 ≤ s.capacity → 2 < s.ahead 132 3 + 1 →
      FaultsWith (exec .decodeMetadata s) s ⟨.a01, ⟨some (.num (s.ahead 132 3 + 1)), some (.num 2)⟩⟩) ∧
    (s.bitpos + 135 ≤ s.bitLength → s.bitLength < s.bitpos + 304 → s.ahead 48 16 ≤ s.capacity →
      s.ahead 132 3 + 1 ≤ 2 → FaultsWith (exec .decodeMetadata s) s ⟨.p11, ⟨none, none⟩⟩) ∧
    (s.bitpos + 304 ≤ s.bitLength → s.ahead 48 16 ≤ s.capacity → s.ahead 132 3 + 1 ≤ 2 →
      ∃ t, exec .decodeMetadata s = .next t ∧ t.fault = false)

/-- R78: `decode_audio` at the end of the stream produces no frame and no error. -/
def Obligations.DecodeAudioAtTheEnd : Prop :=
  ∀ s : State, s.fault = false → s.decState = .hasMetadata ∨ s.decState = .complete → s.bitpos = 8 * s.stream.length →
    Returns (exec .decodeAudio s) { s with decState := .complete, frValid := false }

/-- R159, R276: what a `decode_audio` that produced a frame leaves. -/
def Obligations.DecodedFrameLeaves : Prop :=
  ∀ s t : State, s.fault = false → s.decState = .hasMetadata ∨ s.decState = .complete → s.eos = false →
    exec .decodeAudio s = .next t → t.fault = false →
    t.frValid = true ∧ t.decState = s.decState ∧ s.bitpos < t.bitpos ∧ t.bitpos % 8 = 0 ∧ t.bitpos ≤ t.bitLength ∧
    t.si = s.si ∧ t.siValid = s.siValid ∧ t.stream = s.stream ∧ t.capacity = s.capacity ∧ t.port = s.port ∧
    t.result = s.result ∧ FrameRegs.legal t.capacity t.fr ∧
    (∀ c i, c < t.fr.nch.toNat → ((lookupCell i (t.channel c)).isSome = true ↔ i < t.fr.blocksize.toNat)) ∧
    (t.fr.nch.toNat = 1 → t.sb1 = [])

/-- R193, R188, R191, R192, R187: the frame registers after a frame are what the header's codes say; `F_RATE` and
`F_BPS` copy `SI_*` for the codes 0 when `SI_VALID = 1`. -/
def Obligations.FrameRegistersFromTheHeader : Prop :=
  ∀ s t : State, s.fault = false → s.decState = .hasMetadata ∨ s.decState = .complete → s.eos = false →
    exec .decodeAudio s = .next t → t.fault = false →
    t.fr.blocksize.toNat = s.headerBlocksize ∧
    (s.ahead 20 4 ≠ 0 ∨ s.siValid = true → t.fr.rate.toNat = s.headerRate) ∧
    t.fr.chAssign.toNat = s.ahead 24 4 ∧
    t.fr.nch.toNat = (if s.ahead 24 4 = 0 then 1 else 2) ∧
    (s.ahead 28 3 ≠ 0 ∨ s.siValid = true → t.fr.bps.toNat = tableBps (s.ahead 28 3) s.si.bps.toNat)

/-- R294 (with R180, R190): of several violations in the fixed part of a frame header the first in stream order is
reported, a field that cannot be read whole taking its place in that order with P11; behind a legal fixed part a header
that is cut short faults with P11, and a blocksize above `N` with A05 once the CRC-8 is read. -/
def Obligations.FrameHeaderFaultOrder : Prop :=
  ∀ s : State, s.fault = false → s.decState = .hasMetadata ∨ s.decState = .complete → s.eos = false →
    (∀ r, s.firstFault s.headerChecks = some r → FaultsWith (exec .decodeAudio s) s r) ∧
    (s.firstFault s.headerChecks = none →
      (s.bitLength < s.bitpos + 40 → FaultsWith (exec .decodeAudio s) s ⟨.p11, ⟨none, none⟩⟩) ∧
      (s.bitpos + 40 ≤ s.bitLength → s.bitLength < s.bitpos + s.headerBits →
        FaultsWith (exec .decodeAudio s) s ⟨.p11, ⟨none, none⟩⟩) ∧
      (s.bitpos + s.headerBits ≤ s.bitLength → s.capacity < s.headerBlocksize →
        FaultsWith (exec .decodeAudio s) s ⟨.a05, ⟨some (.num s.headerBlocksize), some (.num s.capacity)⟩⟩))

/-- Every frame an encoder writes is decoded to its samples and its frame registers: header, one or two subframes of any
kind, wasted bits, residuals, decorrelation, padding and CRC-16 of any value (R90, R158, R159, R193, R210, R276).
`F_RATE` with code 0 is `SI_RATE`, which is a draw while `SI_VALID = 0` (R27, log entry 20); a frame with size code 0 is
taken with `SI_VALID = 1` only, since its very length hangs on `SI_BPS`. -/
def Obligations.FrameDecodesToItsSamples : Prop :=
  ∀ (s : State) (p : FramePlan) (pad : List Bool) (out0 out1 : Nat → Int),
    s.fault = false → s.decState = .hasMetadata ∨ s.decState = .complete →
    p.legal s.capacity → (p.ss = 0 → s.siValid = true) → p.produces s.si.bps.toNat out0 out1 →
    pad.length = padWidth (s.bitpos + (p.bits s.si.bps.toNat).length) →
    carries s.stream s.bitpos (p.bits s.si.bps.toNat ++ pad ++ encode (.crc16 p.crc16)) →
    ∃ t, exec .decodeAudio s = .next t ∧ t.fault = false ∧ t.frValid = true ∧ t.decState = s.decState ∧
      t.bitpos = s.bitpos + (p.bits s.si.bps.toNat).length + pad.length + 16 ∧
      t.fr.blocksize.toNat = p.blocksize ∧ t.fr.chAssign = p.ca ∧
      t.fr.nch.toNat = (if p.sub1 = none then 1 else 2) ∧
      t.fr.bps.toNat = p.bps s.si.bps.toNat ∧
      (p.sr ≠ 0 ∨ s.siValid = true → t.fr.rate.toNat = tableRate p.sr.toNat s.si.rate.toNat p.rateExt) ∧
      (∀ i, i < p.blocksize → t.sample 0 i = out0 i) ∧
      (p.sub1 ≠ none → ∀ i, i < p.blocksize → t.sample 1 i = out1 i)

/-- The same for the plainest frame, one channel of a constant: whatever the discarded bits of the header, the padding
and the CRCs are (R216, R120). -/
def Obligations.MonoConstantFrame : Prop :=
  ∀ (s : State) (strategy zero : Bool) (bs sr : BitVec 4) (ss : BitVec 3) (x : BitVec 7) (v : Int) (c8 : BitVec 8)
    (c16 : BitVec 16) (pad : List Bool) (bps : Nat),
    s.fault = false → s.decState = .hasMetadata →
    bs.toNat ∉ [0, 6, 7] → sr.toNat ∉ [0, 12, 13, 14, 15] → ss.toNat ∉ [0, 3] → bps = tableBps ss.toNat 0 →
    tableBlocksize bs.toNat 0 ≤ s.capacity → fitsSigned bps v = true →
    pad.length = padWidth (s.bitpos + 56 + bps) →
    carries s.stream s.bitpos (encode (.framePreamble strategy bs sr 0 ss) ++ encode (.codedNumberK000 x) ++
      encode (.crc8 c8) ++ encode (.subframeConstant zero false) ++ encode (.constantBody bps v) ++ pad ++
      encode (.crc16 c16)) →
    ∃ t, exec .decodeAudio s = .next t ∧ t.fault = false ∧ t.frValid = true ∧ t.decState = .hasMetadata ∧
      t.bitpos = s.bitpos + 56 + bps + pad.length + 16 ∧ t.fr.blocksize.toNat = tableBlocksize bs.toNat 0 ∧
      t.fr.rate.toNat = tableRate sr.toNat 0 0 ∧ t.fr.nch = 1 ∧ t.fr.bps.toNat = bps ∧
      ∀ i, i < tableBlocksize bs.toNat 0 → t.sample 0 i = v

/-! ## Elements: marker and metadata -/

/-- R91, R92, R94 (with R118): what the marker, the eight rows of the metadata header and a skipped body do: the bits are
consumed, a header leaves its three fields in the working registers, nothing else changes; P11 where the bits are not
there. -/
def Obligations.MetadataElements : Prop :=
  ∀ (s : State) (last : Bool) (length : BitVec 24), s.fault = false →
    (s.bitpos + 32 ≤ s.bitLength →
      exec .marker s = .next { s with bitpos := s.bitpos + 32 } ∧
      exec (.metaStreaminfo last length) s = .next { s with
        bitpos := s.bitpos + 32
        work := { s.work with metaLast := last, metaType := 0, metaLength := length } } ∧
      exec (.metaSkip0 last length) s = .next { s with
        bitpos := s.bitpos + 32
        work := { s.work with metaLast := last, metaType := 1, metaLength := length } } ∧
      (∀ low : BitVec 1, exec (.metaSkip1 last low length) s = .next { s with
        bitpos := s.bitpos + 32
        work := { s.work with metaLast := last, metaType := BitVec.ofNat 7 (2 + low.toNat), metaLength := length } }) ∧
      (∀ low : BitVec 2, exec (.metaSkip2 last low length) s = .next { s with
        bitpos := s.bitpos + 32
        work := { s.work with metaLast := last, metaType := BitVec.ofNat 7 (4 + low.toNat), metaLength := length } }) ∧
      (∀ low : BitVec 3, exec (.metaSkip3 last low length) s = .next { s with
        bitpos := s.bitpos + 32
        work := { s.work with metaLast := last, metaType := BitVec.ofNat 7 (8 + low.toNat), metaLength := length } }) ∧
      (∀ low : BitVec 4, exec (.metaSkip4 last low length) s = .next { s with
        bitpos := s.bitpos + 32
        work := { s.work with metaLast := last, metaType := BitVec.ofNat 7 (16 + low.toNat), metaLength := length } }) ∧
      (∀ low : BitVec 5, exec (.metaSkip5 last low length) s = .next { s with
        bitpos := s.bitpos + 32
        work := { s.work with metaLast := last, metaType := BitVec.ofNat 7 (32 + low.toNat), metaLength := length } }) ∧
      (∀ low : BitVec 6, exec (.metaSkip6 last low length) s = .next { s with
        bitpos := s.bitpos + 32
        work := { s.work with metaLast := last, metaType := BitVec.ofNat 7 (64 + low.toNat), metaLength := length } })) ∧
    (s.bitpos + 8 * length.toNat ≤ s.bitLength →
      exec (.skippedBody length) s = .next { s with bitpos := s.bitpos + 8 * length.toNat }) ∧
    (s.bitLength < s.bitpos + 8 * length.toNat → FaultsWith (exec (.skippedBody length) s) s ⟨.p11, ⟨none, none⟩⟩)

/-- R93, R155: the STREAMINFO body: A02 before A01, else `SI_*` from its fields with the two transforms of R110, the MD5
discarded. -/
def Obligations.StreaminfoBodyElement : Prop :=
  ∀ (s : State) (a b : BitVec 16) (c d : BitVec 24) (e : BitVec 20) (f : BitVec 3) (g : BitVec 5) (h : BitVec 36)
    (md5 : BitVec 128), s.fault = false → s.bitpos + 272 ≤ s.bitLength →
    (s.capacity < b.toNat →
      FaultsWith (exec (.streaminfoBody a b c d e f g h md5) s) s
        ⟨.a02, ⟨some (.num b.toNat), some (.num s.capacity)⟩⟩) ∧
    (b.toNat ≤ s.capacity → 2 ≤ f.toNat →
      FaultsWith (exec (.streaminfoBody a b c d e f g h md5) s) s ⟨.a01, ⟨some (.num (f.toNat + 1)), some (.num 2)⟩⟩) ∧
    (b.toNat ≤ s.capacity → f.toNat ≤ 1 →
      exec (.streaminfoBody a b c d e f g h md5) s = .next { s with
        bitpos := s.bitpos + 272
        siValid := true
        si := { minBlock := a, maxBlock := b, minFrame := c, maxFrame := d, rate := e
                channels := BitVec.ofNat 4 (f.toNat + 1), bps := BitVec.ofNat 6 (g.toNat + 1), total := h } })

/-! ## Elements: the frame header -/

/-- R112 (with R187, R97): the sixteen blocksize codes and the two extensions. -/
def Obligations.BlocksizeCodes : Prop :=
  ∀ s : State, s.fault = false →
    (s.bitpos + 4 ≤ s.bitLength →
      FaultsWith (exec .bsCode0 s) s ⟨.p05, ⟨some (.num 0), none⟩⟩ ∧
      exec .bsCode1 s = .next { s with bitpos := s.bitpos + 4, work := { s.work with bsCode := 1, blocksize := 192 } } ∧
      exec .bsCode2 s = .next { s with bitpos := s.bitpos + 4, work := { s.work with bsCode := 2, blocksize := 576 } } ∧
      exec .bsCode3 s = .next { s with bitpos := s.bitpos + 4, work := { s.work with bsCode := 3, blocksize := 1152 } } ∧
      exec .bsCode4 s = .next { s with bitpos := s.bitpos + 4, work := { s.work with bsCode := 4, blocksize := 2304 } } ∧
      exec .bsCode5 s = .next { s with bitpos := s.bitpos + 4, work := { s.work with bsCode := 5, blocksize := 4608 } } ∧
      exec .bsCode6 s = .next { s with bitpos := s.bitpos + 4, work := { s.work with bsCode := 6 } } ∧
      exec .bsCode7 s = .next { s with bitpos := s.bitpos + 4, work := { s.work with bsCode := 7 } } ∧
      exec .bsCode8 s = .next { s with bitpos := s.bitpos + 4, work := { s.work with bsCode := 8, blocksize := 256 } } ∧
      exec .bsCode9 s = .next { s with bitpos := s.bitpos + 4, work := { s.work with bsCode := 9, blocksize := 512 } } ∧
      exec .bsCode10 s =
        .next { s with bitpos := s.bitpos + 4, work := { s.work with bsCode := 10, blocksize := 1024 } } ∧
      exec .bsCode11 s =
        .next { s with bitpos := s.bitpos + 4, work := { s.work with bsCode := 11, blocksize := 2048 } } ∧
      exec .bsCode12 s =
        .next { s with bitpos := s.bitpos + 4, work := { s.work with bsCode := 12, blocksize := 4096 } } ∧
      exec .bsCode13 s =
        .next { s with bitpos := s.bitpos + 4, work := { s.work with bsCode := 13, blocksize := 8192 } } ∧
      exec .bsCode14 s =
        .next { s with bitpos := s.bitpos + 4, work := { s.work with bsCode := 14, blocksize := 16384 } } ∧
      exec .bsCode15 s =
        .next { s with bitpos := s.bitpos + 4, work := { s.work with bsCode := 15, blocksize := 32768 } }) ∧
    (∀ v : BitVec 8, s.bitpos + 8 ≤ s.bitLength →
      exec (.blocksizeExt8 v) s =
        .next { s with bitpos := s.bitpos + 8, work := { s.work with blocksize := v.toNat + 1 } }) ∧
    (∀ v : BitVec 16, s.bitpos + 16 ≤ s.bitLength →
      exec (.blocksizeExt16 v) s =
        .next { s with bitpos := s.bitpos + 16, work := { s.work with blocksize := v.toNat + 1 } })

/-- R113 (with R188, R98): the sixteen sample-rate codes and the three extensions; code 0 copies `SI_RATE`, or any
20-bit value while `SI_VALID = 0` (R27), of which the statement says nothing more. -/
def Obligations.SampleRateCodes : Prop :=
  ∀ s : State, s.fault = false →
    (s.bitpos + 4 ≤ s.bitLength →
      (s.siValid = true → exec .srCode0 s =
        .next { s with bitpos := s.bitpos + 4, work := { s.work with srCode := 0, rate := s.si.rate.toNat } }) ∧
      (s.siValid = false → ∃ (v : BitVec 20) (d : Nat), exec .srCode0 s =
        .next { s with bitpos := s.bitpos + 4, draw := d, work := { s.work with srCode := 0, rate := v.toNat } }) ∧
      exec .srCode1 s = .next { s with bitpos := s.bitpos + 4, work := { s.work with srCode := 1, rate := 88200 } } ∧
      exec .srCode2 s = .next { s with bitpos := s.bitpos + 4, work := { s.work with srCode := 2, rate := 176400 } } ∧
      exec .srCode3 s = .next { s with bitpos := s.bitpos + 4, work := { s.work with srCode := 3, rate := 192000 } } ∧
      exec .srCode4 s = .next { s with bitpos := s.bitpos + 4, work := { s.work with srCode := 4, rate := 8000 } } ∧
      exec .srCode5 s = .next { s with bitpos := s.bitpos + 4, work := { s.work with srCode := 5, rate := 16000 } } ∧
      exec .srCode6 s = .next { s with bitpos := s.bitpos + 4, work := { s.work with srCode := 6, rate := 22050 } } ∧
      exec .srCode7 s = .next { s with bitpos := s.bitpos + 4, work := { s.work with srCode := 7, rate := 24000 } } ∧
      exec .srCode8 s = .next { s with bitpos := s.bitpos + 4, work := { s.work with srCode := 8, rate := 32000 } } ∧
      exec .srCode9 s = .next { s with bitpos := s.bitpos + 4, work := { s.work with srCode := 9, rate := 44100 } } ∧
      exec .srCode10 s = .next { s with bitpos := s.bitpos + 4, work := { s.work with srCode := 10, rate := 48000 } } ∧
      exec .srCode11 s = .next { s with bitpos := s.bitpos + 4, work := { s.work with srCode := 11, rate := 96000 } } ∧
      exec .srCode12 s = .next { s with bitpos := s.bitpos + 4, work := { s.work with srCode := 12 } } ∧
      exec .srCode13 s = .next { s with bitpos := s.bitpos + 4, work := { s.work with srCode := 13 } } ∧
      exec .srCode14 s = .next { s with bitpos := s.bitpos + 4, work := { s.work with srCode := 14 } } ∧
      FaultsWith (exec .srCode15 s) s ⟨.p06, ⟨some (.num 15), none⟩⟩) ∧
    (∀ v : BitVec 8, s.bitpos + 8 ≤ s.bitLength →
      exec (.rateExt8Khz v) s =
        .next { s with bitpos := s.bitpos + 8, work := { s.work with rate := v.toNat * 1000 } }) ∧
    (∀ v : BitVec 16, s.bitpos + 16 ≤ s.bitLength →
      exec (.rateExt16Hz v) s = .next { s with bitpos := s.bitpos + 16, work := { s.work with rate := v.toNat } } ∧
      exec (.rateExt16Dhz v) s =
        .next { s with bitpos := s.bitpos + 16, work := { s.work with rate := v.toNat * 10 } })

/-- R115 (with R192): the sixteen channel-assignment codes: one channel, two channels, too many, reserved. -/
def Obligations.ChannelAssignmentCodes : Prop :=
  ∀ s : State, s.fault = false → s.bitpos + 4 ≤ s.bitLength →
    exec .caCode0 s = .next { s with bitpos := s.bitpos + 4, work := { s.work with caCode := 0, nch := 1 } } ∧
    exec .caCode1 s = .next { s with bitpos := s.bitpos + 4, work := { s.work with caCode := 1, nch := 2 } } ∧
    FaultsWith (exec .caCode2 s) s ⟨.a04, ⟨some (.num 3), some (.num 2)⟩⟩ ∧
    FaultsWith (exec .caCode3 s) s ⟨.a04, ⟨some (.num 4), some (.num 2)⟩⟩ ∧
    FaultsWith (exec .caCode4 s) s ⟨.a04, ⟨some (.num 5), some (.num 2)⟩⟩ ∧
    FaultsWith (exec .caCode5 s) s ⟨.a04, ⟨some (.num 6), some (.num 2)⟩⟩ ∧
    FaultsWith (exec .caCode6 s) s ⟨.a04, ⟨some (.num 7), some (.num 2)⟩⟩ ∧
    FaultsWith (exec .caCode7 s) s ⟨.a04, ⟨some (.num 8), some (.num 2)⟩⟩ ∧
    exec .caCode8 s = .next { s with bitpos := s.bitpos + 4, work := { s.work with caCode := 8, nch := 2 } } ∧
    exec .caCode9 s = .next { s with bitpos := s.bitpos + 4, work := { s.work with caCode := 9, nch := 2 } } ∧
    exec .caCode10 s = .next { s with bitpos := s.bitpos + 4, work := { s.work with caCode := 10, nch := 2 } } ∧
    FaultsWith (exec .caCode11 s) s ⟨.a03, ⟨some (.num 11), none⟩⟩ ∧
    FaultsWith (exec .caCode12 s) s ⟨.a03, ⟨some (.num 12), none⟩⟩ ∧
    FaultsWith (exec .caCode13 s) s ⟨.a03, ⟨some (.num 13), none⟩⟩ ∧
    FaultsWith (exec .caCode14 s) s ⟨.a03, ⟨some (.num 14), none⟩⟩ ∧
    FaultsWith (exec .caCode15 s) s ⟨.a03, ⟨some (.num 15), none⟩⟩

/-- R114 (with R191): the eight sample-size codes; code 0 copies `SI_BPS`, or any 6-bit value while `SI_VALID = 0`. -/
def Obligations.SampleSizeCodes : Prop :=
  ∀ s : State, s.fault = false → s.bitpos + 3 ≤ s.bitLength →
    (s.siValid = true → exec .ssCode0 s =
      .next { s with bitpos := s.bitpos + 3, work := { s.work with ssCode := 0, bps := s.si.bps.toNat } }) ∧
    (s.siValid = false → ∃ (v : BitVec 6) (d : Nat), exec .ssCode0 s =
      .next { s with bitpos := s.bitpos + 3, draw := d, work := { s.work with ssCode := 0, bps := v.toNat } }) ∧
    exec .ssCode1 s = .next { s with bitpos := s.bitpos + 3, work := { s.work with ssCode := 1, bps := 8 } } ∧
    exec .ssCode2 s = .next { s with bitpos := s.bitpos + 3, work := { s.work with ssCode := 2, bps := 12 } } ∧
    FaultsWith (exec .ssCode3 s) s ⟨.p07, ⟨some (.num 3), none⟩⟩ ∧
    exec .ssCode4 s = .next { s with bitpos := s.bitpos + 3, work := { s.work with ssCode := 4, bps := 16 } } ∧
    exec .ssCode5 s = .next { s with bitpos := s.bitpos + 3, work := { s.work with ssCode := 5, bps := 20 } } ∧
    exec .ssCode6 s = .next { s with bitpos := s.bitpos + 3, work := { s.work with ssCode := 6, bps := 24 } } ∧
    exec .ssCode7 s = .next { s with bitpos := s.bitpos + 3, work := { s.work with ssCode := 7, bps := 32 } }

/-- R95, R180, R183: the frame preamble with its four codes: legal codes leave the table values (an extension's code
leaves the value to the extension; a code 0 takes `SI_*`, any value while `SI_VALID = 0`), the first illegal code in stream order faults, and the blocking strategy makes no
difference. -/
def Obligations.FramePreambleElement : Prop :=
  ∀ (s : State) (strategy : Bool) (bs sr ca : BitVec 4) (ss : BitVec 3), s.fault = false →
    s.bitpos + 32 ≤ s.bitLength →
    exec (.framePreamble strategy bs sr ca ss) s = exec (.framePreamble (!strategy) bs sr ca ss) s ∧
    (bs ≠ 0 → sr ≠ 15 → ca.toNat ∈ [0, 1, 8, 9, 10] → ss ≠ 3 →
      ∃ (si : StreamInfo) (d : Nat), (s.siValid = true → si = s.si) ∧ (s.siValid = true ∨ sr ≠ 0 ∧ ss ≠ 0 → d = s.draw) ∧
        exec (.framePreamble strategy bs sr ca ss) s = .next { s with
          bitpos := s.bitpos + 32
          draw := d
          work := { s.work with
            bsCode := bs, srCode := sr, caCode := ca, ssCode := ss
            blocksize := if bs = 6 ∨ bs = 7 then s.work.blocksize else tableBlocksize bs.toNat 0
            rate := if sr.toNat ∈ [12, 13, 14] then s.work.rate else tableRate sr.toNat si.rate.toNat 0
            nch := if ca = 0 then 1 else 2
            bps := tableBps ss.toNat si.bps.toNat } }) ∧
    (bs = 0 → FaultsWith (exec (.framePreamble strategy bs sr ca ss) s) s ⟨.p05, ⟨some (.num 0), none⟩⟩) ∧
    (bs ≠ 0 → sr = 15 →
      FaultsWith (exec (.framePreamble strategy bs sr ca ss) s) s ⟨.p06, ⟨some (.num 15), none⟩⟩) ∧
    (bs ≠ 0 → sr ≠ 15 → 11 ≤ ca.toNat →
      FaultsWith (exec (.framePreamble strategy bs sr ca ss) s) s ⟨.a03, ⟨some (.num ca.toNat), none⟩⟩) ∧
    (bs ≠ 0 → sr ≠ 15 → 2 ≤ ca.toNat → ca.toNat ≤ 7 →
      FaultsWith (exec (.framePreamble strategy bs sr ca ss) s) s
        ⟨.a04, ⟨some (.num (ca.toNat + 1)), some (.num 2)⟩⟩) ∧
    (bs ≠ 0 → sr ≠ 15 → ca.toNat ∈ [0, 1, 8, 9, 10] → ss = 3 →
      FaultsWith (exec (.framePreamble strategy bs sr ca ss) s) s ⟨.p07, ⟨some (.num 3), none⟩⟩)

/-- R96 (with R186): the nine rows of the coded number: one byte and the following bytes of the table are consumed,
nothing is kept, and the table's count is `max(0, clz8(~b) − 1)`. -/
def Obligations.CodedNumberRows : Prop :=
  (∀ (s : State), s.fault = false →
    (s.bitpos + 8 ≤ s.bitLength →
      (∀ x, exec (.codedNumberK000 x) s = .next { s with bitpos := s.bitpos + 8 }) ∧
      (∀ x, exec (.codedNumberK080 x) s = .next { s with bitpos := s.bitpos + 8 })) ∧
    (s.bitpos + 16 ≤ s.bitLength → ∀ x f, exec (.codedNumberK1C0 x f) s = .next { s with bitpos := s.bitpos + 16 }) ∧
    (s.bitpos + 24 ≤ s.bitLength → ∀ x f, exec (.codedNumberK2E0 x f) s = .next { s with bitpos := s.bitpos + 24 }) ∧
    (s.bitpos + 32 ≤ s.bitLength → ∀ x f, exec (.codedNumberK3F0 x f) s = .next { s with bitpos := s.bitpos + 32 }) ∧
    (s.bitpos + 40 ≤ s.bitLength → ∀ x f, exec (.codedNumberK4F8 x f) s = .next { s with bitpos := s.bitpos + 40 }) ∧
    (s.bitpos + 48 ≤ s.bitLength → ∀ x f, exec (.codedNumberK5FC x f) s = .next { s with bitpos := s.bitpos + 48 }) ∧
    (s.bitpos + 56 ≤ s.bitLength → ∀ f, exec (.codedNumberK6FE f) s = .next { s with bitpos := s.bitpos + 56 }) ∧
    (s.bitpos + 64 ≤ s.bitLength → ∀ f, exec (.codedNumberK7FF f) s = .next { s with bitpos := s.bitpos + 64 })) ∧
  ∀ (c : ElemCtx) (b : BitSrc) (i : Instr), decodeElem c .codedNumber b = .ok i →
    (encode i).length = 8 + 8 * (clz8 (255 - b.field 0 8) - 1) ∧
    clz8 (255 - b.field 0 8) - 1 = codedFollowing (b.field 0 8)

/-- R99, R109, R120: the CRC-8, the padding and the CRC-16 are consumed and ignored, whatever their value; P11 where a
CRC is not whole. -/
def Obligations.DiscardedFields : Prop :=
  ∀ s : State, s.fault = false →
    (∀ v, s.bitpos + 8 ≤ s.bitLength → exec (.crc8 v) s = .next { s with bitpos := s.bitpos + 8 }) ∧
    (∀ v, s.bitLength < s.bitpos + 8 → FaultsWith (exec (.crc8 v) s) s ⟨.p11, ⟨none, none⟩⟩) ∧
    (∀ v, s.bitpos + 16 ≤ s.bitLength → exec (.crc16 v) s = .next { s with bitpos := s.bitpos + 16 }) ∧
    (∀ v, s.bitLength < s.bitpos + 16 → FaultsWith (exec (.crc16 v) s) s ⟨.p11, ⟨none, none⟩⟩) ∧
    (∀ width v, (Instr.padding width v).WellFormed → width = padWidth s.bitpos →
      exec (.padding width v) s = .next { s with bitpos := s.bitpos + width } ∧ (s.bitpos + width) % 8 = 0)

/-! ## Elements: subframes -/

/-- R116 (with R212, R215): the subframe headers: a legal type leaves type, flag and order, a reserved type faults with
P08, the first bit makes no difference. That `order` is written at the header, and that it is 0 for CONSTANT and VERBATIM,
is the model's choice (log entry 29, DESIGN CHOICE). -/
def Obligations.SubframeHeaderRows : Prop :=
  ∀ (s : State) (zero wasted : Bool), s.fault = false →
    (s.bitpos + 8 ≤ s.bitLength →
      exec (.subframeConstant zero wasted) s = .next { s with
        bitpos := s.bitpos + 8, work := { s.work with type := 0, wastedFlag := wasted, w := 0, order := 0 } } ∧
      exec (.subframeVerbatim zero wasted) s = .next { s with
        bitpos := s.bitpos + 8, work := { s.work with type := 1, wastedFlag := wasted, w := 0, order := 0 } } ∧
      exec (.subframeFixed0 zero wasted) s = .next { s with
        bitpos := s.bitpos + 8, work := { s.work with type := 8, wastedFlag := wasted, w := 0, order := 0 } } ∧
      exec (.subframeFixed1 zero wasted) s = .next { s with
        bitpos := s.bitpos + 8, work := { s.work with type := 9, wastedFlag := wasted, w := 0, order := 1 } } ∧
      exec (.subframeFixed2 zero wasted) s = .next { s with
        bitpos := s.bitpos + 8, work := { s.work with type := 10, wastedFlag := wasted, w := 0, order := 2 } } ∧
      exec (.subframeFixed3 zero wasted) s = .next { s with
        bitpos := s.bitpos + 8, work := { s.work with type := 11, wastedFlag := wasted, w := 0, order := 3 } } ∧
      exec (.subframeFixed4 zero wasted) s = .next { s with
        bitpos := s.bitpos + 8, work := { s.work with type := 12, wastedFlag := wasted, w := 0, order := 4 } } ∧
      ∀ m : BitVec 5, exec (.subframeLpc zero m wasted) s = .next { s with
        bitpos := s.bitpos + 8
        work := { s.work with type := 32 + m.toNat, wastedFlag := wasted, w := 0, order := m.toNat + 1 } }) ∧
    (s.bitpos + 7 ≤ s.bitLength →
      (∀ x, FaultsWith (exec (.subframeReserved2To3 zero x) s) s ⟨.p08, ⟨some (.num (2 + x.toNat)), none⟩⟩) ∧
      (∀ x, FaultsWith (exec (.subframeReserved4To7 zero x) s) s ⟨.p08, ⟨some (.num (4 + x.toNat)), none⟩⟩) ∧
      FaultsWith (exec (.subframeReserved13 zero) s) s ⟨.p08, ⟨some (.num 13), none⟩⟩ ∧
      (∀ x, FaultsWith (exec (.subframeReserved14To15 zero x) s) s ⟨.p08, ⟨some (.num (14 + x.toNat)), none⟩⟩) ∧
      ∀ x, FaultsWith (exec (.subframeReserved16To31 zero x) s) s ⟨.p08, ⟨some (.num (16 + x.toNat)), none⟩⟩)

/-- R213, R211, R214: the wasted-bits count is the number of zero bits, and the effective width is the frame's sample
size, one more for the side channel, less the count; P13 outside 1 to 64. -/
def Obligations.WastedBitsAndWidth : Prop :=
  ∀ s : State, s.fault = false →
    (∀ w, s.bitpos + w + 1 ≤ s.bitLength →
      exec (.wastedUnary w) s = .next { s with bitpos := s.bitpos + w + 1, work := { s.work with w := w } }) ∧
    ∀ bps : Int,
      bps = s.fr.bps.toNat +
        (if (s.fr.chAssign = 8 ∧ s.work.ch = 1) ∨ (s.fr.chAssign = 9 ∧ s.work.ch = 0) ∨
          (s.fr.chAssign = 10 ∧ s.work.ch = 1) then 1 else 0) - s.work.w →
      (1 ≤ bps → bps ≤ 64 → effectiveWidth s = .next { s with work := { s.work with bpsEff := bps.toNat } }) ∧
      (bps < 1 ∨ 64 < bps → FaultsWith (effectiveWidth s) s ⟨.p13, ⟨some (.num bps), none⟩⟩)

/-- R216: a CONSTANT body fills the channel with its value up to the blocksize, and no other cell changes. -/
def Obligations.ConstantBodyFills : Prop :=
  ∀ (s : State) (width : Nat) (v : Int), s.fault = false → (Instr.constantBody width v).WellFormed →
    s.work.ch ≤ 1 → s.fr.blocksize.toNat ≤ s.capacity →
    (s.bitpos + width ≤ s.bitLength →
      ∃ t, exec (.constantBody width v) s = .next t ∧
        t = { s with bitpos := s.bitpos + width, sb0 := t.sb0, sb1 := t.sb1 } ∧
        Writes s t s.work.ch 0 s.fr.blocksize.toNat fun _ => v) ∧
    (s.bitLength < s.bitpos + width → FaultsWith (exec (.constantBody width v) s) s ⟨.p11, ⟨none, none⟩⟩)

/-- R217: a VERBATIM body reads one signed field per sample, sample 0 first. -/
def Obligations.VerbatimBodyReads : Prop :=
  ∀ s : State, s.fault = false → s.work.ch ≤ 1 → s.fr.blocksize.toNat ≤ s.capacity → 1 ≤ s.work.bpsEff →
    s.work.bpsEff ≤ 64 → s.bitpos ≤ s.bitLength →
    (s.bitpos + s.fr.blocksize.toNat * s.work.bpsEff ≤ s.bitLength →
      ∃ t, exec .verbatimBody s = .next t ∧
        t = { s with bitpos := s.bitpos + s.fr.blocksize.toNat * s.work.bpsEff, sb0 := t.sb0, sb1 := t.sb1 } ∧
        Writes s t s.work.ch 0 s.fr.blocksize.toNat fun i =>
          sext s.work.bpsEff (s.ahead (i * s.work.bpsEff) s.work.bpsEff)) ∧
    (s.bitLength < s.bitpos + s.fr.blocksize.toNat * s.work.bpsEff →
      FaultsWith (exec .verbatimBody s) s ⟨.p11, ⟨none, none⟩⟩)

/-- R218, R219, R221, R257: a FIXED body of any order, warmup and residual restores the samples of the recurrence with
the constants of the table, shift 0, ascending. -/
def Obligations.FixedBodyRestores : Prop :=
  ∀ (s : State) (order : Fin 5) (warmup : List Int) (residual : ResidualPlan) (y : Nat → Int),
    s.fault = false → s.work.ch ≤ 1 → s.fr.blocksize.toNat ≤ s.capacity → 1 ≤ s.work.bpsEff → s.work.bpsEff ≤ 64 →
    (BodyPlan.fixed order warmup residual).produces s.work.bpsEff s.fr.blocksize.toNat y →
    carries s.stream s.bitpos ((BodyPlan.fixed order warmup residual).bits s.work.bpsEff) →
    ∃ t, exec (.fixedBody order) s = .next t ∧
      t = { s with
        bitpos := s.bitpos + ((BodyPlan.fixed order warmup residual).bits s.work.bpsEff).length
        work := t.work, sb0 := t.sb0, sb1 := t.sb1 } ∧
      t.work.ch = s.work.ch ∧ t.work.w = s.work.w ∧ t.work.bpsEff = s.work.bpsEff ∧
      Writes s t s.work.ch 0 s.fr.blocksize.toNat y

/-- R220, R221: an LPC body of any order, precision and non-negative shift restores the samples of the recurrence with
the coefficients it carries, the whole sum shifted once. -/
def Obligations.LpcBodyRestores : Prop :=
  ∀ (s : State) (m : BitVec 5) (warmup : List Int) (p shift : BitVec 4) (coefs : List Int) (residual : ResidualPlan)
    (y : Nat → Int),
    s.fault = false → s.work.ch ≤ 1 → s.fr.blocksize.toNat ≤ s.capacity → 1 ≤ s.work.bpsEff → s.work.bpsEff ≤ 64 →
    (BodyPlan.lpc m warmup p shift coefs residual).produces s.work.bpsEff s.fr.blocksize.toNat y →
    carries s.stream s.bitpos ((BodyPlan.lpc m warmup p shift coefs residual).bits s.work.bpsEff) →
    ∃ t, exec (.lpcBody m) s = .next t ∧
      t = { s with
        bitpos := s.bitpos + ((BodyPlan.lpc m warmup p shift coefs residual).bits s.work.bpsEff).length
        work := t.work, sb0 := t.sb0, sb1 := t.sb1, coef := t.coef, lpcPrec := t.lpcPrec, lpcShift := t.lpcShift } ∧
      t.work.ch = s.work.ch ∧ t.work.w = s.work.w ∧ t.work.bpsEff = s.work.bpsEff ∧
      t.lpcPrec.toNat = p.toNat + 1 ∧ t.lpcShift.toNat = shift.toNat ∧
      (∀ j, j ≤ m.toNat → (t.coef.toList.getD j 0).toInt = coefs.getD j 0) ∧
      Writes s t s.work.ch 0 s.fr.blocksize.toNat y

/-- R222, R220: P12 before any warmup sample when the order exceeds the blocksize; P14 for a negative quantization
shift, before the coefficients. -/
def Obligations.PredictorChecks : Prop :=
  ∀ s : State, s.fault = false →
    (∀ order : Fin 5, s.fr.blocksize.toNat < order.val →
      FaultsWith (exec (.fixedBody order) s) s
        ⟨.p12, ⟨some (.num order.val), some (.num s.fr.blocksize.toNat)⟩⟩) ∧
    ∀ m : BitVec 5,
      (s.fr.blocksize.toNat < m.toNat + 1 →
        FaultsWith (exec (.lpcBody m) s) s
          ⟨.p12, ⟨some (.num (m.toNat + 1)), some (.num s.fr.blocksize.toNat)⟩⟩) ∧
      (m.toNat + 1 ≤ s.fr.blocksize.toNat → s.fr.blocksize.toNat ≤ s.capacity → 1 ≤ s.work.bpsEff →
        s.work.bpsEff ≤ 64 → s.bitpos + (m.toNat + 1) * s.work.bpsEff + 9 ≤ s.bitLength →
        16 ≤ s.ahead ((m.toNat + 1) * s.work.bpsEff + 4) 5 →
        FaultsWith (exec (.lpcBody m) s) s
          ⟨.p14, ⟨some (.num ((s.ahead ((m.toNat + 1) * s.work.bpsEff + 4) 5 : Int) - 32)), none⟩⟩)

/-- R223, R226: the wasted-bit shift multiplies every sample of the channel by `2^w`, or faults with A06 if a product
leaves 64 bits. -/
def Obligations.WastedShiftMultiplies : Prop :=
  ∀ s : State, s.fault = false → s.work.ch ≤ 1 → s.fr.blocksize.toNat ≤ s.capacity →
    ((∀ i, i < s.fr.blocksize.toNat →
        -2 ^ 63 ≤ s.sample s.work.ch i * 2 ^ s.work.w ∧ s.sample s.work.ch i * 2 ^ s.work.w ≤ 2 ^ 63 - 1) →
      ∃ t, shiftWasted s = .next t ∧ t = { s with sb0 := t.sb0, sb1 := t.sb1 } ∧
        Writes s t s.work.ch 0 s.fr.blocksize.toNat fun i => s.sample s.work.ch i * 2 ^ s.work.w) ∧
    ((∃ i, i < s.fr.blocksize.toNat ∧
        (s.sample s.work.ch i * 2 ^ s.work.w < -2 ^ 63 ∨ 2 ^ 63 - 1 < s.sample s.work.ch i * 2 ^ s.work.w)) →
      FaultsWith (shiftWasted s) s ⟨.a06, ⟨none, none⟩⟩)

/-! ## Elements: the residual -/

/-- R251, R253: the residual headers: methods 0 and 1 with their partition count and size, P10 and P12 right after the
partition order; methods 2 and 3 fault with P09. -/
def Obligations.ResidualHeaderRows : Prop :=
  ∀ s : State, s.fault = false →
    (∀ po : BitVec 4, s.bitpos + 6 ≤ s.bitLength →
      (s.fr.blocksize.toNat % 2 ^ po.toNat ≠ 0 →
        FaultsWith (exec (.residualMethod0 po) s) s
          ⟨.p10, ⟨some (.num s.fr.blocksize.toNat), some (.num (2 ^ po.toNat))⟩⟩ ∧
        FaultsWith (exec (.residualMethod1 po) s) s
          ⟨.p10, ⟨some (.num s.fr.blocksize.toNat), some (.num (2 ^ po.toNat))⟩⟩) ∧
      (s.fr.blocksize.toNat % 2 ^ po.toNat = 0 → s.fr.blocksize.toNat / 2 ^ po.toNat < s.work.order →
        FaultsWith (exec (.residualMethod0 po) s) s
          ⟨.p12, ⟨some (.num s.work.order), some (.num ((s.fr.blocksize.toNat / 2 ^ po.toNat : Nat) : Int))⟩⟩ ∧
        FaultsWith (exec (.residualMethod1 po) s) s
          ⟨.p12, ⟨some (.num s.work.order), some (.num ((s.fr.blocksize.toNat / 2 ^ po.toNat : Nat) : Int))⟩⟩) ∧
      (s.fr.blocksize.toNat % 2 ^ po.toNat = 0 → s.work.order ≤ s.fr.blocksize.toNat / 2 ^ po.toNat →
        exec (.residualMethod0 po) s = .next { s with
          bitpos := s.bitpos + 6
          work := { s.work with method := 0, po := po.toNat, pcount := 2 ^ po.toNat,
                                psize := s.fr.blocksize.toNat / 2 ^ po.toNat } } ∧
        exec (.residualMethod1 po) s = .next { s with
          bitpos := s.bitpos + 6
          work := { s.work with method := 1, po := po.toNat, pcount := 2 ^ po.toNat,
                                psize := s.fr.blocksize.toNat / 2 ^ po.toNat } })) ∧
    (s.bitpos + 2 ≤ s.bitLength →
      FaultsWith (exec .residualMethod2 s) s ⟨.p09, ⟨some (.num 2), none⟩⟩ ∧
      FaultsWith (exec .residualMethod3 s) s ⟨.p09, ⟨some (.num 3), none⟩⟩)

/-- R117 (with R107, R253): every parameter of both methods: its value and whether it is the escape. -/
def Obligations.PartitionParameters : Prop :=
  ∀ s : State, s.fault = false →
    (s.bitpos + 4 ≤ s.bitLength → ∀ e ∈
      [(Instr.param4RiceK0, 0, false), (.param4RiceK1, 1, false), (.param4RiceK2, 2, false), (.param4RiceK3, 3, false),
       (.param4RiceK4, 4, false), (.param4RiceK5, 5, false), (.param4RiceK6, 6, false), (.param4RiceK7, 7, false),
       (.param4RiceK8, 8, false), (.param4RiceK9, 9, false), (.param4RiceK10, 10, false), (.param4RiceK11, 11, false),
       (.param4RiceK12, 12, false), (.param4RiceK13, 13, false), (.param4RiceK14, 14, false),
       (.param4Escape, 15, true)],
      exec e.1 s = .next { s with
        bitpos := s.bitpos + 4, work := { s.work with param := e.2.1, escaped := e.2.2 } }) ∧
    (s.bitpos + 5 ≤ s.bitLength → ∀ e ∈
      [(Instr.param5RiceK0, 0, false), (.param5RiceK1, 1, false), (.param5RiceK2, 2, false), (.param5RiceK3, 3, false),
       (.param5RiceK4, 4, false), (.param5RiceK5, 5, false), (.param5RiceK6, 6, false), (.param5RiceK7, 7, false),
       (.param5RiceK8, 8, false), (.param5RiceK9, 9, false), (.param5RiceK10, 10, false), (.param5RiceK11, 11, false),
       (.param5RiceK12, 12, false), (.param5RiceK13, 13, false), (.param5RiceK14, 14, false),
       (.param5RiceK15, 15, false), (.param5RiceK16, 16, false), (.param5RiceK17, 17, false),
       (.param5RiceK18, 18, false), (.param5RiceK19, 19, false), (.param5RiceK20, 20, false),
       (.param5RiceK21, 21, false), (.param5RiceK22, 22, false), (.param5RiceK23, 23, false),
       (.param5RiceK24, 24, false), (.param5RiceK25, 25, false), (.param5RiceK26, 26, false),
       (.param5RiceK27, 27, false), (.param5RiceK28, 28, false), (.param5RiceK29, 29, false),
       (.param5RiceK30, 30, false), (.param5Escape, 31, true)],
      exec e.1 s = .next { s with
        bitpos := s.bitpos + 5, work := { s.work with param := e.2.1, escaped := e.2.2 } })

/-- R256, R254, R226: an escape width is kept; a raw residual is stored as it is and a Rice word as the folded value of
`q·2^k + r`, unshifted, in the next cell of the channel; A06 when that value leaves 64 bits. -/
def Obligations.ResidualsAreStored : Prop :=
  ∀ s : State, s.fault = false →
    (∀ n : BitVec 5, s.bitpos + 5 ≤ s.bitLength →
      exec (.escapeWidth n) s = .next { s with bitpos := s.bitpos + 5, work := { s.work with bitCount := n.toNat } }) ∧
    (s.work.ch ≤ 1 → s.work.index < s.capacity →
      (∀ (width : Nat) (v : Int), (Instr.rawResidual width v).WellFormed → s.bitpos + width ≤ s.bitLength →
        ∃ t, exec (.rawResidual width v) s = .next t ∧
          t = { s with bitpos := s.bitpos + width, work := { s.work with index := s.work.index + 1 },
                       sb0 := t.sb0, sb1 := t.sb1 } ∧
          Writes s t s.work.ch s.work.index (s.work.index + 1) fun _ => v) ∧
      ∀ k q r : Nat, (Instr.riceWord k q r).WellFormed → s.bitpos + (q + 1 + k) ≤ s.bitLength →
        ∀ v : Int, (v = if (q * 2 ^ k + r) % 2 = 0 then ((q * 2 ^ k + r : Nat) : Int) / 2
            else -(((q * 2 ^ k + r : Nat) : Int) - 1) / 2 - 1) →
          (-2 ^ 63 ≤ v → v ≤ 2 ^ 63 - 1 →
            ∃ t, exec (.riceWord k q r) s = .next t ∧
              t = { s with bitpos := s.bitpos + (q + 1 + k), work := { s.work with index := s.work.index + 1 },
                           sb0 := t.sb0, sb1 := t.sb1 } ∧
              Writes s t s.work.ch s.work.index (s.work.index + 1) fun _ => v) ∧
          (v < -2 ^ 63 ∨ 2 ^ 63 - 1 < v → FaultsWith (exec (.riceWord k q r) s) s ⟨.a06, ⟨none, none⟩⟩))

/-- R255: the folded zig-zag is a bijection from the naturals onto the integers, with the inverse the rule gives. -/
def Obligations.ZigzagIsABijection : Prop :=
  Function.Bijective zigzag ∧ (∀ u, zigzagInv (zigzag u) = u) ∧ (∀ v, zigzag (zigzagInv v) = v) ∧
  (∀ u, u % 2 = 0 → zigzag u = ((u / 2 : Nat) : Int)) ∧ (∀ u, u % 2 = 1 → zigzag u = -((u / 2 : Nat) : Int) - 1) ∧
  ∀ v : Int, (zigzagInv v : Int) = if 0 ≤ v then 2 * v else -2 * v - 1

/-- R250, R252, R257: whatever residual an encoder writes, Rice-coded and escaped partitions mixed, `decode_residual`
puts its values into the cells from the order up to the blocksize and touches no other cell. -/
def Obligations.ResidualRoundTrip : Prop :=
  ∀ (s : State) (order : Nat) (p : ResidualPlan),
    s.fault = false → s.work.ch ≤ 1 → s.fr.blocksize.toNat ≤ s.capacity → s.work.order = order →
    p.legal order s.fr.blocksize.toNat → carries s.stream s.bitpos p.bits →
    ∃ t, decodeResidual order s = .next t ∧
      t = { s with bitpos := s.bitpos + p.bits.length, work := t.work, sb0 := t.sb0, sb1 := t.sb1 } ∧
      t.work.ch = s.work.ch ∧ t.work.w = s.work.w ∧ t.work.bpsEff = s.work.bpsEff ∧
      p.values.length = s.fr.blocksize.toNat - order ∧
      Writes s t s.work.ch order s.fr.blocksize.toNat fun i => p.values.getD (i - order) 0

/-! ## Decorrelation -/

/-- R271, R272, R273, R274: what each channel assignment makes of the two channels, sample by sample, and A06 where a
result leaves 64 bits. -/
def Obligations.Decorrelation : Prop :=
  ∀ s : State, s.fault = false → s.fr.blocksize.toNat ≤ s.capacity →
    (s.fr.chAssign = 0 ∨ s.fr.chAssign = 1 → decorrelate s = .next s) ∧
    (s.fr.chAssign = 8 →
      ((∀ i, i < s.fr.blocksize.toNat → inRange64 (s.sample 0 i - s.sample 1 i) = true) →
        ∃ t, decorrelate s = .next t ∧ t = { s with sb1 := t.sb1 } ∧
          Writes s t 1 0 s.fr.blocksize.toNat fun i => s.sample 0 i - s.sample 1 i) ∧
      ((∃ i, i < s.fr.blocksize.toNat ∧ inRange64 (s.sample 0 i - s.sample 1 i) = false) →
        FaultsWith (decorrelate s) s ⟨.a06, ⟨none, none⟩⟩)) ∧
    (s.fr.chAssign = 9 →
      ((∀ i, i < s.fr.blocksize.toNat → inRange64 (s.sample 0 i + s.sample 1 i) = true) →
        ∃ t, decorrelate s = .next t ∧ t = { s with sb0 := t.sb0 } ∧
          Writes s t 0 0 s.fr.blocksize.toNat fun i => s.sample 0 i + s.sample 1 i) ∧
      ((∃ i, i < s.fr.blocksize.toNat ∧ inRange64 (s.sample 0 i + s.sample 1 i) = false) →
        FaultsWith (decorrelate s) s ⟨.a06, ⟨none, none⟩⟩)) ∧
    (s.fr.chAssign = 10 →
      ((∀ i, i < s.fr.blocksize.toNat →
          inRange64 (s.sample 0 i - s.sample 1 i / 2) = true ∧
          inRange64 (s.sample 0 i - s.sample 1 i / 2 + s.sample 1 i) = true) →
        ∃ t, decorrelate s = .next t ∧ t = { s with sb0 := t.sb0, sb1 := t.sb1 } ∧
          ∀ i,
            (i < s.fr.blocksize.toNat →
              t.sample 0 i = s.sample 0 i - s.sample 1 i / 2 + s.sample 1 i ∧
              t.sample 1 i = s.sample 0 i - s.sample 1 i / 2) ∧
            (s.fr.blocksize.toNat ≤ i → t.cell 0 i = s.cell 0 i ∧ t.cell 1 i = s.cell 1 i)) ∧
      ((∃ i, i < s.fr.blocksize.toNat ∧
          (inRange64 (s.sample 0 i - s.sample 1 i / 2) = false ∨
            inRange64 (s.sample 0 i - s.sample 1 i / 2 + s.sample 1 i) = false)) →
        FaultsWith (decorrelate s) s ⟨.a06, ⟨none, none⟩⟩))

/-- R276: from the left/side, side/right and mid/side form of any left and right samples of up to 63 bits the
decorrelation gives back the left and the right samples, sample by sample. -/
def Obligations.DecorrelationInverts : Prop :=
  ∀ (s : State) (l r : Nat → Int), s.fault = false → s.fr.blocksize.toNat ≤ s.capacity →
    (∀ i, -2 ^ 62 ≤ l i ∧ l i < 2 ^ 62 ∧ -2 ^ 62 ≤ r i ∧ r i < 2 ^ 62) →
    ((s.fr.chAssign = 8 ∧ ∀ i, i < s.fr.blocksize.toNat → s.sample 0 i = l i ∧ s.sample 1 i = l i - r i) ∨
      (s.fr.chAssign = 9 ∧ ∀ i, i < s.fr.blocksize.toNat → s.sample 0 i = l i - r i ∧ s.sample 1 i = r i) ∨
      (s.fr.chAssign = 10 ∧
        ∀ i, i < s.fr.blocksize.toNat → s.sample 0 i = (l i + r i) / 2 ∧ s.sample 1 i = l i - r i)) →
    ∃ t, decorrelate s = .next t ∧ t.fault = false ∧
      ∀ i, i < s.fr.blocksize.toNat → t.sample 0 i = l i ∧ t.sample 1 i = r i
end

