-- ==== Sys2Proof/Laws/Bits.lean ====
section
/-! SUPPORT. Reading a byte string that holds given bits: the value of a field, the unary count, and the two ways a field
splits. -/

namespace Sys2Proof

/-! ## Fields -/

@[simp] theorem memRead_zero (bytes : List Byte) (p : Nat) : memRead bytes p 0 = 0 := rfl

theorem memRead_succ (bytes : List Byte) (p n : Nat) :
    memRead bytes p (n + 1) = 2 * memRead bytes p n + (bitAt bytes (p + n)).toNat := rfl

theorem memRead_one (bytes : List Byte) (p : Nat) : memRead bytes p 1 = (bitAt bytes p).toNat := by
  simp [memRead_succ]

/-- A field of `n` bits is below `2^n`. -/
theorem memRead_lt (bytes : List Byte) (p n : Nat) : memRead bytes p n < 2 ^ n := by
  induction n with
  | zero => simp
  | succ n ih =>
    rw [memRead_succ, Nat.pow_succ]
    have := Bool.toNat_lt (bitAt bytes (p + n))
    omega

/-- A field splits at any bit, the first part the more significant. -/
theorem memRead_split (bytes : List Byte) (p a b : Nat) :
    memRead bytes p (a + b) = memRead bytes p a * 2 ^ b + memRead bytes (p + a) b := by
  induction b with
  | zero => simp
  | succ b ih =>
    rw [← Nat.add_assoc, memRead_succ, memRead_succ, ih, Nat.pow_succ, Nat.add_assoc]
    ring

/-- A field depends on its own bits only. -/
theorem memRead_congr {b₁ b₂ : List Byte} {p q n : Nat} (h : ∀ i, i < n → bitAt b₁ (p + i) = bitAt b₂ (q + i)) :
    memRead b₁ p n = memRead b₂ q n := by
  induction n with
  | zero => rfl
  | succ n ih => rw [memRead_succ, memRead_succ, ih fun i hi => h i (by omega), h n (by omega)]

/-! ## Lists of bits -/

@[simp] theorem length_bitsOf (n v : Nat) : (bitsOf n v).length = n := by
  induction n with
  | zero => rfl
  | succ n ih => simp [bitsOf, ih]

theorem getD_bitsOf {n v i : Nat} (h : i < n) : (bitsOf n v).getD i false = v.testBit (n - 1 - i) := by
  induction n generalizing i with
  | zero => omega
  | succ n ih =>
    cases i with
    | zero => simp [bitsOf]
    | succ i =>
      rw [bitsOf, List.getD_cons_succ, ih (by omega)]
      congr 1
      omega

@[simp] theorem length_signedBits (n : Nat) (v : Int) : (signedBits n v).length = n := length_bitsOf _ _

@[simp] theorem length_unaryBits (q : Nat) : (unaryBits q).length = q + 1 := by simp [unaryBits]

/-! ## A stream that holds bits -/

theorem carries_nil {bytes : List Byte} {p : Nat} (h : p ≤ 8 * bytes.length) : carries bytes p [] :=
  ⟨by simpa using h, by simp⟩

theorem carries.bound {bytes : List Byte} {p : Nat} {bits : List Bool} (h : carries bytes p bits) :
    p + bits.length ≤ 8 * bytes.length := h.1

/-- To hold two lists of bits in a row is to hold the first, and the second right after it. -/
theorem carries_append {bytes : List Byte} {p : Nat} {xs ys : List Bool} :
    carries bytes p (xs ++ ys) ↔ carries bytes p xs ∧ carries bytes (p + xs.length) ys := by
  simp only [carries, List.length_append]
  constructor
  · rintro ⟨hb, h⟩
    refine ⟨⟨by omega, fun i hi => ?_⟩, by omega, fun i hi => ?_⟩
    · rw [h i (by omega), List.getD_append _ _ _ _ hi]
    · rw [Nat.add_assoc, h (xs.length + i) (by omega), List.getD_append_right _ _ _ _ (by omega)]
      simp
  · rintro ⟨⟨_, hx⟩, hb, hy⟩
    refine ⟨by omega, fun i hi => ?_⟩
    by_cases hlt : i < xs.length
    · rw [hx i hlt, List.getD_append _ _ _ _ hlt]
    · rw [List.getD_append_right _ _ _ _ (by omega), ← hy (i - xs.length) (by omega)]
      congr 1
      omega

theorem carries_cons {bytes : List Byte} {p : Nat} {b : Bool} {bits : List Bool} :
    carries bytes p (b :: bits) ↔ carries bytes p [b] ∧ carries bytes (p + 1) bits :=
  carries_append (xs := [b])

/-- A single bit held. -/
theorem bitAt_of_carries {bytes : List Byte} {p : Nat} {b : Bool} (h : carries bytes p [b]) : bitAt bytes p = b := by
  simpa using h.2 0 (by simp)

/-- The value of a field whose bits are held. -/
theorem memRead_of_carries {bytes : List Byte} {p n v : Nat} (h : carries bytes p (bitsOf n v)) :
    memRead bytes p n = v % 2 ^ n := by
  have key : ∀ m, m ≤ n → memRead bytes p m = v / 2 ^ (n - m) % 2 ^ m := by
    intro m hm
    induction m with
    | zero => simp [Nat.mod_one]
    | succ m ih =>
      have hbit := h.2 m (by simpa using hm)
      rw [getD_bitsOf (by omega)] at hbit
      rw [memRead_succ, ih (by omega), hbit, show n - m = n - (m + 1) + 1 by omega, show n - 1 - m = n - (m + 1) by omega,
        Nat.testBit_eq_decide_div_mod_eq, Nat.pow_succ 2 (n - (m + 1)), ← Nat.div_div_eq_div_mul, Nat.pow_succ 2 m,
        Nat.mul_comm (2 ^ m) 2, Nat.mod_mul (a := 2)]
      have := Nat.mod_two_eq_zero_or_one (v / 2 ^ (n - (m + 1)))
      rcases this with h0 | h1
      · simp [h0]
      · simp [h1]; omega
  simpa using key n (le_refl n)

/-- The unary count that starts where its bits are held. -/
theorem countZeros_of_carries {bytes : List Byte} {p q fuel : Nat} (h : carries bytes p (unaryBits q)) (hf : q < fuel) :
    countZeros bytes fuel p = some q := by
  induction q generalizing p fuel with
  | zero =>
    cases fuel with
    | zero => omega
    | succ fuel => rw [countZeros, bitAt_of_carries (b := true) (by simpa [unaryBits] using h)]; rfl
  | succ q ih =>
    cases fuel with
    | zero => omega
    | succ fuel =>
      have h' : carries bytes p (false :: unaryBits q) := by simpa [unaryBits, List.replicate_succ] using h
      obtain ⟨h0, h1⟩ := carries_cons.1 h'
      rw [countZeros, bitAt_of_carries h0, ih h1 (by omega)]
      rfl

theorem unary_of_carries {b : BitSrc} {q : Nat} (h : carries b.bytes b.pos (unaryBits q)) : b.unary = some q := by
  have hb := h.bound
  simp only [length_unaryBits] at hb
  exact countZeros_of_carries h (by simp only [BitSrc.total]; omega)

/-- What a unary count found tells about the stream: that many 0 bits, then a 1 bit, all inside the stream. -/
theorem countZeros_eq_some {bytes : List Byte} {p q fuel : Nat} (h : countZeros bytes fuel p = some q) :
    q < fuel ∧ (∀ i, i < q → bitAt bytes (p + i) = false) ∧ bitAt bytes (p + q) = true := by
  induction fuel generalizing p q with
  | zero => cases h
  | succ fuel ih =>
    unfold countZeros at h
    split at h
    · next hb => cases h; exact ⟨by omega, by simp, hb⟩
    · next hb =>
      obtain ⟨q', hq', rfl⟩ := Option.map_eq_some_iff.1 h
      obtain ⟨hlt, hz, ho⟩ := ih hq'
      refine ⟨by omega, fun i hi => ?_, by rw [show p + (q' + 1) = p + 1 + q' by omega]; exact ho⟩
      cases i with
      | zero => simpa using hb
      | succ i => rw [show p + (i + 1) = p + 1 + i by omega]; exact hz i (by omega)

theorem countZeros_eq_none {bytes : List Byte} {p fuel : Nat} (h : countZeros bytes fuel p = none) :
    ∀ i, i < fuel → bitAt bytes (p + i) = false := by
  induction fuel generalizing p with
  | zero => intro i hi; omega
  | succ fuel ih =>
    unfold countZeros at h
    split at h
    · cases h
    · next hb =>
      have := ih (Option.map_eq_none_iff.1 h)
      intro i hi
      cases i with
      | zero => simpa using hb
      | succ i => rw [show p + (i + 1) = p + 1 + i by omega]; exact this i (by omega)

/-! ## Two's complement -/

/-- The two's-complement reading undoes the pattern of a value that fits. -/
theorem sext_pattern {n : Nat} {v : Int} (h : fitsSigned n v = true) : sext n ((v % 2 ^ n).toNat % 2 ^ n) = v := by
  unfold fitsSigned at h
  unfold sext
  by_cases hn : n = 0
  · subst hn
    have h0 : v = 0 := by simpa using h
    simp [h0]
  · obtain ⟨m, rfl⟩ := Nat.exists_eq_succ_of_ne_zero hn
    simp only [hn, if_false, Nat.succ_sub_one, Bool.and_eq_true, decide_eq_true_eq, Nat.succ_eq_add_one] at h ⊢
    have hp : (0 : Int) < 2 ^ m := by positivity
    have hpow : (2 : Int) ^ (m + 1) = 2 * 2 ^ m := by ring
    have hcast : ((2 ^ m : Nat) : Int) = (2 : Int) ^ m := by push_cast; rfl
    have hmod0 : 0 ≤ v % 2 ^ (m + 1) := Int.emod_nonneg _ (by positivity)
    have hlt : (v % 2 ^ (m + 1)).toNat < 2 ^ (m + 1) := by
      have : v % 2 ^ (m + 1) < 2 ^ (m + 1) := Int.emod_lt_of_pos _ (by positivity)
      zify
      rw [Int.toNat_of_nonneg hmod0]
      exact_mod_cast this
    rw [Nat.mod_eq_of_lt hlt]
    have hto : (((v % 2 ^ (m + 1)).toNat : Nat) : Int) = v % 2 ^ (m + 1) := Int.toNat_of_nonneg hmod0
    by_cases hv : 0 ≤ v
    · have he : v % 2 ^ (m + 1) = v := Int.emod_eq_of_lt hv (by omega)
      rw [if_pos (by zify; rw [hto, he]; exact h.2), hto, he]
    · have he : v % 2 ^ (m + 1) = v + 2 ^ (m + 1) := by
        rw [← Int.add_emod_right]
        exact Int.emod_eq_of_lt (by omega) (by omega)
      rw [if_neg (by zify; rw [hto, he]; omega), hto, he]
      ring

/-- The signed value of a field whose bits are held. -/
theorem sext_of_carries {bytes : List Byte} {p n : Nat} {v : Int} (h : carries bytes p (signedBits n v))
    (hv : fitsSigned n v = true) : sext n (memRead bytes p n) = v := by
  rw [memRead_of_carries h, sext_pattern hv]

/-- A field of up to 64 bits reads as a value of the cell's range. -/
theorem sext_bounds {n v : Nat} (hn : 0 < n) (hv : v < 2 ^ n) : -(2 ^ (n - 1) : Int) ≤ sext n v ∧ sext n v < 2 ^ (n - 1) := by
  obtain ⟨m, rfl⟩ := Nat.exists_eq_succ_of_ne_zero (by omega : n ≠ 0)
  unfold sext
  have hcast : ((2 ^ m : Nat) : Int) = (2 : Int) ^ m := by push_cast; rfl
  have hpow : (2 : Nat) ^ (m + 1) = 2 * 2 ^ m := by ring
  have hpowi : (2 : Int) ^ (m + 1) = 2 * 2 ^ m := by ring
  simp only [Nat.succ_eq_add_one, Nat.add_one_sub_one, Nat.add_eq_zero_iff, one_ne_zero, and_false, if_false] at hv ⊢
  rw [hpowi]
  rw [hpow] at hv
  generalize hg : (2 : Nat) ^ m = g at *
  split <;> constructor <;> omega

end Sys2Proof
end

