-- ==== Sys2Proof/Laws/State.lean ====
section
/-! SUPPORT. What each update of the state writes and what it leaves: one lemma per field per update, by rfl. -/

namespace Sys2Proof.Machine

variable (s : State)

/-! `latch` -/

@[simp] theorem State.latch_stream (r : Raise) : (s.latch r).stream = s.stream := rfl
@[simp] theorem State.latch_capacity (r : Raise) : (s.latch r).capacity = s.capacity := rfl
@[simp] theorem State.latch_bitpos (r : Raise) : (s.latch r).bitpos = s.bitpos := rfl
@[simp] theorem State.latch_decState (r : Raise) : (s.latch r).decState = s.decState := rfl
@[simp] theorem State.latch_fault (r : Raise) : (s.latch r).fault = true := rfl
@[simp] theorem State.latch_faultKind (r : Raise) : (s.latch r).faultKind = causeKind r.cause := rfl
@[simp] theorem State.latch_faultCause (r : Raise) : (s.latch r).faultCause = r.cause := rfl
@[simp] theorem State.latch_faultInfo (r : Raise) : (s.latch r).faultInfo = r.info := rfl
@[simp] theorem State.latch_si (r : Raise) : (s.latch r).si = s.si := rfl
@[simp] theorem State.latch_siValid (r : Raise) : (s.latch r).siValid = s.siValid := rfl
@[simp] theorem State.latch_fr (r : Raise) : (s.latch r).fr = s.fr := rfl
@[simp] theorem State.latch_frValid (r : Raise) : (s.latch r).frValid = s.frValid := rfl
@[simp] theorem State.latch_sb0 (r : Raise) : (s.latch r).sb0 = s.sb0 := rfl
@[simp] theorem State.latch_sb1 (r : Raise) : (s.latch r).sb1 = s.sb1 := rfl
@[simp] theorem State.latch_sbFree (r : Raise) : (s.latch r).sbFree = s.sbFree := rfl
@[simp] theorem State.latch_coef (r : Raise) : (s.latch r).coef = s.coef := rfl
@[simp] theorem State.latch_lpcPrec (r : Raise) : (s.latch r).lpcPrec = s.lpcPrec := rfl
@[simp] theorem State.latch_lpcShift (r : Raise) : (s.latch r).lpcShift = s.lpcShift := rfl
@[simp] theorem State.latch_work (r : Raise) : (s.latch r).work = s.work := rfl
@[simp] theorem State.latch_draw (r : Raise) : (s.latch r).draw = s.draw := rfl
@[simp] theorem State.latch_result (r : Raise) : (s.latch r).result = s.result := rfl
@[simp] theorem State.latch_port (r : Raise) : (s.latch r).port = s.port := rfl

/-! `scramble` -/

@[simp] theorem State.scramble_stream : (s.scramble).stream = s.stream := rfl
@[simp] theorem State.scramble_capacity : (s.scramble).capacity = s.capacity := rfl
@[simp] theorem State.scramble_bitpos : (s.scramble).bitpos = Config.freeBitpos s.draw % (s.bitLength + 1) := rfl
@[simp] theorem State.scramble_decState : (s.scramble).decState = s.decState := rfl
@[simp] theorem State.scramble_fault : (s.scramble).fault = s.fault := rfl
@[simp] theorem State.scramble_faultKind : (s.scramble).faultKind = s.faultKind := rfl
@[simp] theorem State.scramble_faultCause : (s.scramble).faultCause = s.faultCause := rfl
@[simp] theorem State.scramble_faultInfo : (s.scramble).faultInfo = s.faultInfo := rfl
@[simp] theorem State.scramble_si : (s.scramble).si = Config.freeStreamInfo s.draw := rfl
@[simp] theorem State.scramble_siValid : (s.scramble).siValid = Config.freeSiValid s.draw := rfl
@[simp] theorem State.scramble_fr : (s.scramble).fr = Config.freeFrameRegs s.draw := rfl
@[simp] theorem State.scramble_frValid : (s.scramble).frValid = false := rfl
@[simp] theorem State.scramble_sb0 : (s.scramble).sb0 = [] := rfl
@[simp] theorem State.scramble_sb1 : (s.scramble).sb1 = [] := rfl
@[simp] theorem State.scramble_sbFree : (s.scramble).sbFree = s.draw := rfl
@[simp] theorem State.scramble_coef : (s.scramble).coef = freeCoefFile s.draw := rfl
@[simp] theorem State.scramble_lpcPrec : (s.scramble).lpcPrec = Config.freeLpcPrec s.draw := rfl
@[simp] theorem State.scramble_lpcShift : (s.scramble).lpcShift = Config.freeLpcShift s.draw := rfl
@[simp] theorem State.scramble_work : (s.scramble).work = Config.freeWork s.draw := rfl
@[simp] theorem State.scramble_draw : (s.scramble).draw = s.draw + 1 := rfl
@[simp] theorem State.scramble_result : (s.scramble).result = s.result := rfl
@[simp] theorem State.scramble_port : (s.scramble).port = s.port := rfl

/-! `setBitpos` -/

@[simp] theorem State.setBitpos_stream (p : Nat) : (s.setBitpos p).stream = s.stream := rfl
@[simp] theorem State.setBitpos_capacity (p : Nat) : (s.setBitpos p).capacity = s.capacity := rfl
@[simp] theorem State.setBitpos_bitpos (p : Nat) : (s.setBitpos p).bitpos = p := rfl
@[simp] theorem State.setBitpos_decState (p : Nat) : (s.setBitpos p).decState = s.decState := rfl
@[simp] theorem State.setBitpos_fault (p : Nat) : (s.setBitpos p).fault = s.fault := rfl
@[simp] theorem State.setBitpos_faultKind (p : Nat) : (s.setBitpos p).faultKind = s.faultKind := rfl
@[simp] theorem State.setBitpos_faultCause (p : Nat) : (s.setBitpos p).faultCause = s.faultCause := rfl
@[simp] theorem State.setBitpos_faultInfo (p : Nat) : (s.setBitpos p).faultInfo = s.faultInfo := rfl
@[simp] theorem State.setBitpos_si (p : Nat) : (s.setBitpos p).si = s.si := rfl
@[simp] theorem State.setBitpos_siValid (p : Nat) : (s.setBitpos p).siValid = s.siValid := rfl
@[simp] theorem State.setBitpos_fr (p : Nat) : (s.setBitpos p).fr = s.fr := rfl
@[simp] theorem State.setBitpos_frValid (p : Nat) : (s.setBitpos p).frValid = s.frValid := rfl
@[simp] theorem State.setBitpos_sb0 (p : Nat) : (s.setBitpos p).sb0 = s.sb0 := rfl
@[simp] theorem State.setBitpos_sb1 (p : Nat) : (s.setBitpos p).sb1 = s.sb1 := rfl
@[simp] theorem State.setBitpos_sbFree (p : Nat) : (s.setBitpos p).sbFree = s.sbFree := rfl
@[simp] theorem State.setBitpos_coef (p : Nat) : (s.setBitpos p).coef = s.coef := rfl
@[simp] theorem State.setBitpos_lpcPrec (p : Nat) : (s.setBitpos p).lpcPrec = s.lpcPrec := rfl
@[simp] theorem State.setBitpos_lpcShift (p : Nat) : (s.setBitpos p).lpcShift = s.lpcShift := rfl
@[simp] theorem State.setBitpos_work (p : Nat) : (s.setBitpos p).work = s.work := rfl
@[simp] theorem State.setBitpos_draw (p : Nat) : (s.setBitpos p).draw = s.draw := rfl
@[simp] theorem State.setBitpos_result (p : Nat) : (s.setBitpos p).result = s.result := rfl
@[simp] theorem State.setBitpos_port (p : Nat) : (s.setBitpos p).port = s.port := rfl

/-! `setDecState` -/

@[simp] theorem State.setDecState_stream (d : DecState) : (s.setDecState d).stream = s.stream := rfl
@[simp] theorem State.setDecState_capacity (d : DecState) : (s.setDecState d).capacity = s.capacity := rfl
@[simp] theorem State.setDecState_bitpos (d : DecState) : (s.setDecState d).bitpos = s.bitpos := rfl
@[simp] theorem State.setDecState_decState (d : DecState) : (s.setDecState d).decState = d := rfl
@[simp] theorem State.setDecState_fault (d : DecState) : (s.setDecState d).fault = s.fault := rfl
@[simp] theorem State.setDecState_faultKind (d : DecState) : (s.setDecState d).faultKind = s.faultKind := rfl
@[simp] theorem State.setDecState_faultCause (d : DecState) : (s.setDecState d).faultCause = s.faultCause := rfl
@[simp] theorem State.setDecState_faultInfo (d : DecState) : (s.setDecState d).faultInfo = s.faultInfo := rfl
@[simp] theorem State.setDecState_si (d : DecState) : (s.setDecState d).si = s.si := rfl
@[simp] theorem State.setDecState_siValid (d : DecState) : (s.setDecState d).siValid = s.siValid := rfl
@[simp] theorem State.setDecState_fr (d : DecState) : (s.setDecState d).fr = s.fr := rfl
@[simp] theorem State.setDecState_frValid (d : DecState) : (s.setDecState d).frValid = s.frValid := rfl
@[simp] theorem State.setDecState_sb0 (d : DecState) : (s.setDecState d).sb0 = s.sb0 := rfl
@[simp] theorem State.setDecState_sb1 (d : DecState) : (s.setDecState d).sb1 = s.sb1 := rfl
@[simp] theorem State.setDecState_sbFree (d : DecState) : (s.setDecState d).sbFree = s.sbFree := rfl
@[simp] theorem State.setDecState_coef (d : DecState) : (s.setDecState d).coef = s.coef := rfl
@[simp] theorem State.setDecState_lpcPrec (d : DecState) : (s.setDecState d).lpcPrec = s.lpcPrec := rfl
@[simp] theorem State.setDecState_lpcShift (d : DecState) : (s.setDecState d).lpcShift = s.lpcShift := rfl
@[simp] theorem State.setDecState_work (d : DecState) : (s.setDecState d).work = s.work := rfl
@[simp] theorem State.setDecState_draw (d : DecState) : (s.setDecState d).draw = s.draw := rfl
@[simp] theorem State.setDecState_result (d : DecState) : (s.setDecState d).result = s.result := rfl
@[simp] theorem State.setDecState_port (d : DecState) : (s.setDecState d).port = s.port := rfl

/-! `setFrValid` -/

@[simp] theorem State.setFrValid_stream (b : Bool) : (s.setFrValid b).stream = s.stream := rfl
@[simp] theorem State.setFrValid_capacity (b : Bool) : (s.setFrValid b).capacity = s.capacity := rfl
@[simp] theorem State.setFrValid_bitpos (b : Bool) : (s.setFrValid b).bitpos = s.bitpos := rfl
@[simp] theorem State.setFrValid_decState (b : Bool) : (s.setFrValid b).decState = s.decState := rfl
@[simp] theorem State.setFrValid_fault (b : Bool) : (s.setFrValid b).fault = s.fault := rfl
@[simp] theorem State.setFrValid_faultKind (b : Bool) : (s.setFrValid b).faultKind = s.faultKind := rfl
@[simp] theorem State.setFrValid_faultCause (b : Bool) : (s.setFrValid b).faultCause = s.faultCause := rfl
@[simp] theorem State.setFrValid_faultInfo (b : Bool) : (s.setFrValid b).faultInfo = s.faultInfo := rfl
@[simp] theorem State.setFrValid_si (b : Bool) : (s.setFrValid b).si = s.si := rfl
@[simp] theorem State.setFrValid_siValid (b : Bool) : (s.setFrValid b).siValid = s.siValid := rfl
@[simp] theorem State.setFrValid_fr (b : Bool) : (s.setFrValid b).fr = s.fr := rfl
@[simp] theorem State.setFrValid_frValid (b : Bool) : (s.setFrValid b).frValid = b := rfl
@[simp] theorem State.setFrValid_sb0 (b : Bool) : (s.setFrValid b).sb0 = s.sb0 := rfl
@[simp] theorem State.setFrValid_sb1 (b : Bool) : (s.setFrValid b).sb1 = s.sb1 := rfl
@[simp] theorem State.setFrValid_sbFree (b : Bool) : (s.setFrValid b).sbFree = s.sbFree := rfl
@[simp] theorem State.setFrValid_coef (b : Bool) : (s.setFrValid b).coef = s.coef := rfl
@[simp] theorem State.setFrValid_lpcPrec (b : Bool) : (s.setFrValid b).lpcPrec = s.lpcPrec := rfl
@[simp] theorem State.setFrValid_lpcShift (b : Bool) : (s.setFrValid b).lpcShift = s.lpcShift := rfl
@[simp] theorem State.setFrValid_work (b : Bool) : (s.setFrValid b).work = s.work := rfl
@[simp] theorem State.setFrValid_draw (b : Bool) : (s.setFrValid b).draw = s.draw := rfl
@[simp] theorem State.setFrValid_result (b : Bool) : (s.setFrValid b).result = s.result := rfl
@[simp] theorem State.setFrValid_port (b : Bool) : (s.setFrValid b).port = s.port := rfl

/-! `setStreamInfo` -/

@[simp] theorem State.setStreamInfo_stream (i : StreamInfo) : (s.setStreamInfo i).stream = s.stream := rfl
@[simp] theorem State.setStreamInfo_capacity (i : StreamInfo) : (s.setStreamInfo i).capacity = s.capacity := rfl
@[simp] theorem State.setStreamInfo_bitpos (i : StreamInfo) : (s.setStreamInfo i).bitpos = s.bitpos := rfl
@[simp] theorem State.setStreamInfo_decState (i : StreamInfo) : (s.setStreamInfo i).decState = s.decState := rfl
@[simp] theorem State.setStreamInfo_fault (i : StreamInfo) : (s.setStreamInfo i).fault = s.fault := rfl
@[simp] theorem State.setStreamInfo_faultKind (i : StreamInfo) : (s.setStreamInfo i).faultKind = s.faultKind := rfl
@[simp] theorem State.setStreamInfo_faultCause (i : StreamInfo) : (s.setStreamInfo i).faultCause = s.faultCause := rfl
@[simp] theorem State.setStreamInfo_faultInfo (i : StreamInfo) : (s.setStreamInfo i).faultInfo = s.faultInfo := rfl
@[simp] theorem State.setStreamInfo_si (i : StreamInfo) : (s.setStreamInfo i).si = i := rfl
@[simp] theorem State.setStreamInfo_siValid (i : StreamInfo) : (s.setStreamInfo i).siValid = true := rfl
@[simp] theorem State.setStreamInfo_fr (i : StreamInfo) : (s.setStreamInfo i).fr = s.fr := rfl
@[simp] theorem State.setStreamInfo_frValid (i : StreamInfo) : (s.setStreamInfo i).frValid = s.frValid := rfl
@[simp] theorem State.setStreamInfo_sb0 (i : StreamInfo) : (s.setStreamInfo i).sb0 = s.sb0 := rfl
@[simp] theorem State.setStreamInfo_sb1 (i : StreamInfo) : (s.setStreamInfo i).sb1 = s.sb1 := rfl
@[simp] theorem State.setStreamInfo_sbFree (i : StreamInfo) : (s.setStreamInfo i).sbFree = s.sbFree := rfl
@[simp] theorem State.setStreamInfo_coef (i : StreamInfo) : (s.setStreamInfo i).coef = s.coef := rfl
@[simp] theorem State.setStreamInfo_lpcPrec (i : StreamInfo) : (s.setStreamInfo i).lpcPrec = s.lpcPrec := rfl
@[simp] theorem State.setStreamInfo_lpcShift (i : StreamInfo) : (s.setStreamInfo i).lpcShift = s.lpcShift := rfl
@[simp] theorem State.setStreamInfo_work (i : StreamInfo) : (s.setStreamInfo i).work = s.work := rfl
@[simp] theorem State.setStreamInfo_draw (i : StreamInfo) : (s.setStreamInfo i).draw = s.draw := rfl
@[simp] theorem State.setStreamInfo_result (i : StreamInfo) : (s.setStreamInfo i).result = s.result := rfl
@[simp] theorem State.setStreamInfo_port (i : StreamInfo) : (s.setStreamInfo i).port = s.port := rfl

/-! `setFrameRegs` -/

@[simp] theorem State.setFrameRegs_stream (f : FrameRegs) : (s.setFrameRegs f).stream = s.stream := rfl
@[simp] theorem State.setFrameRegs_capacity (f : FrameRegs) : (s.setFrameRegs f).capacity = s.capacity := rfl
@[simp] theorem State.setFrameRegs_bitpos (f : FrameRegs) : (s.setFrameRegs f).bitpos = s.bitpos := rfl
@[simp] theorem State.setFrameRegs_decState (f : FrameRegs) : (s.setFrameRegs f).decState = s.decState := rfl
@[simp] theorem State.setFrameRegs_fault (f : FrameRegs) : (s.setFrameRegs f).fault = s.fault := rfl
@[simp] theorem State.setFrameRegs_faultKind (f : FrameRegs) : (s.setFrameRegs f).faultKind = s.faultKind := rfl
@[simp] theorem State.setFrameRegs_faultCause (f : FrameRegs) : (s.setFrameRegs f).faultCause = s.faultCause := rfl
@[simp] theorem State.setFrameRegs_faultInfo (f : FrameRegs) : (s.setFrameRegs f).faultInfo = s.faultInfo := rfl
@[simp] theorem State.setFrameRegs_si (f : FrameRegs) : (s.setFrameRegs f).si = s.si := rfl
@[simp] theorem State.setFrameRegs_siValid (f : FrameRegs) : (s.setFrameRegs f).siValid = s.siValid := rfl
@[simp] theorem State.setFrameRegs_fr (f : FrameRegs) : (s.setFrameRegs f).fr = f := rfl
@[simp] theorem State.setFrameRegs_frValid (f : FrameRegs) : (s.setFrameRegs f).frValid = s.frValid := rfl
@[simp] theorem State.setFrameRegs_sb0 (f : FrameRegs) : (s.setFrameRegs f).sb0 = s.sb0 := rfl
@[simp] theorem State.setFrameRegs_sb1 (f : FrameRegs) : (s.setFrameRegs f).sb1 = s.sb1 := rfl
@[simp] theorem State.setFrameRegs_sbFree (f : FrameRegs) : (s.setFrameRegs f).sbFree = s.sbFree := rfl
@[simp] theorem State.setFrameRegs_coef (f : FrameRegs) : (s.setFrameRegs f).coef = s.coef := rfl
@[simp] theorem State.setFrameRegs_lpcPrec (f : FrameRegs) : (s.setFrameRegs f).lpcPrec = s.lpcPrec := rfl
@[simp] theorem State.setFrameRegs_lpcShift (f : FrameRegs) : (s.setFrameRegs f).lpcShift = s.lpcShift := rfl
@[simp] theorem State.setFrameRegs_work (f : FrameRegs) : (s.setFrameRegs f).work = s.work := rfl
@[simp] theorem State.setFrameRegs_draw (f : FrameRegs) : (s.setFrameRegs f).draw = s.draw := rfl
@[simp] theorem State.setFrameRegs_result (f : FrameRegs) : (s.setFrameRegs f).result = s.result := rfl
@[simp] theorem State.setFrameRegs_port (f : FrameRegs) : (s.setFrameRegs f).port = s.port := rfl

/-! `setWork` -/

@[simp] theorem State.setWork_stream (w : Work) : (s.setWork w).stream = s.stream := rfl
@[simp] theorem State.setWork_capacity (w : Work) : (s.setWork w).capacity = s.capacity := rfl
@[simp] theorem State.setWork_bitpos (w : Work) : (s.setWork w).bitpos = s.bitpos := rfl
@[simp] theorem State.setWork_decState (w : Work) : (s.setWork w).decState = s.decState := rfl
@[simp] theorem State.setWork_fault (w : Work) : (s.setWork w).fault = s.fault := rfl
@[simp] theorem State.setWork_faultKind (w : Work) : (s.setWork w).faultKind = s.faultKind := rfl
@[simp] theorem State.setWork_faultCause (w : Work) : (s.setWork w).faultCause = s.faultCause := rfl
@[simp] theorem State.setWork_faultInfo (w : Work) : (s.setWork w).faultInfo = s.faultInfo := rfl
@[simp] theorem State.setWork_si (w : Work) : (s.setWork w).si = s.si := rfl
@[simp] theorem State.setWork_siValid (w : Work) : (s.setWork w).siValid = s.siValid := rfl
@[simp] theorem State.setWork_fr (w : Work) : (s.setWork w).fr = s.fr := rfl
@[simp] theorem State.setWork_frValid (w : Work) : (s.setWork w).frValid = s.frValid := rfl
@[simp] theorem State.setWork_sb0 (w : Work) : (s.setWork w).sb0 = s.sb0 := rfl
@[simp] theorem State.setWork_sb1 (w : Work) : (s.setWork w).sb1 = s.sb1 := rfl
@[simp] theorem State.setWork_sbFree (w : Work) : (s.setWork w).sbFree = s.sbFree := rfl
@[simp] theorem State.setWork_coef (w : Work) : (s.setWork w).coef = s.coef := rfl
@[simp] theorem State.setWork_lpcPrec (w : Work) : (s.setWork w).lpcPrec = s.lpcPrec := rfl
@[simp] theorem State.setWork_lpcShift (w : Work) : (s.setWork w).lpcShift = s.lpcShift := rfl
@[simp] theorem State.setWork_work (w : Work) : (s.setWork w).work = w := rfl
@[simp] theorem State.setWork_draw (w : Work) : (s.setWork w).draw = s.draw := rfl
@[simp] theorem State.setWork_result (w : Work) : (s.setWork w).result = s.result := rfl
@[simp] theorem State.setWork_port (w : Work) : (s.setWork w).port = s.port := rfl

/-! `setResult` -/

@[simp] theorem State.setResult_stream (v : Int) : (s.setResult v).stream = s.stream := rfl
@[simp] theorem State.setResult_capacity (v : Int) : (s.setResult v).capacity = s.capacity := rfl
@[simp] theorem State.setResult_bitpos (v : Int) : (s.setResult v).bitpos = s.bitpos := rfl
@[simp] theorem State.setResult_decState (v : Int) : (s.setResult v).decState = s.decState := rfl
@[simp] theorem State.setResult_fault (v : Int) : (s.setResult v).fault = s.fault := rfl
@[simp] theorem State.setResult_faultKind (v : Int) : (s.setResult v).faultKind = s.faultKind := rfl
@[simp] theorem State.setResult_faultCause (v : Int) : (s.setResult v).faultCause = s.faultCause := rfl
@[simp] theorem State.setResult_faultInfo (v : Int) : (s.setResult v).faultInfo = s.faultInfo := rfl
@[simp] theorem State.setResult_si (v : Int) : (s.setResult v).si = s.si := rfl
@[simp] theorem State.setResult_siValid (v : Int) : (s.setResult v).siValid = s.siValid := rfl
@[simp] theorem State.setResult_fr (v : Int) : (s.setResult v).fr = s.fr := rfl
@[simp] theorem State.setResult_frValid (v : Int) : (s.setResult v).frValid = s.frValid := rfl
@[simp] theorem State.setResult_sb0 (v : Int) : (s.setResult v).sb0 = s.sb0 := rfl
@[simp] theorem State.setResult_sb1 (v : Int) : (s.setResult v).sb1 = s.sb1 := rfl
@[simp] theorem State.setResult_sbFree (v : Int) : (s.setResult v).sbFree = s.sbFree := rfl
@[simp] theorem State.setResult_coef (v : Int) : (s.setResult v).coef = s.coef := rfl
@[simp] theorem State.setResult_lpcPrec (v : Int) : (s.setResult v).lpcPrec = s.lpcPrec := rfl
@[simp] theorem State.setResult_lpcShift (v : Int) : (s.setResult v).lpcShift = s.lpcShift := rfl
@[simp] theorem State.setResult_work (v : Int) : (s.setResult v).work = s.work := rfl
@[simp] theorem State.setResult_draw (v : Int) : (s.setResult v).draw = s.draw := rfl
@[simp] theorem State.setResult_result (v : Int) : (s.setResult v).result = v := rfl
@[simp] theorem State.setResult_port (v : Int) : (s.setResult v).port = s.port := rfl

/-! `setPort` -/

@[simp] theorem State.setPort_stream (p : List Request) : (s.setPort p).stream = s.stream := rfl
@[simp] theorem State.setPort_capacity (p : List Request) : (s.setPort p).capacity = s.capacity := rfl
@[simp] theorem State.setPort_bitpos (p : List Request) : (s.setPort p).bitpos = s.bitpos := rfl
@[simp] theorem State.setPort_decState (p : List Request) : (s.setPort p).decState = s.decState := rfl
@[simp] theorem State.setPort_fault (p : List Request) : (s.setPort p).fault = s.fault := rfl
@[simp] theorem State.setPort_faultKind (p : List Request) : (s.setPort p).faultKind = s.faultKind := rfl
@[simp] theorem State.setPort_faultCause (p : List Request) : (s.setPort p).faultCause = s.faultCause := rfl
@[simp] theorem State.setPort_faultInfo (p : List Request) : (s.setPort p).faultInfo = s.faultInfo := rfl
@[simp] theorem State.setPort_si (p : List Request) : (s.setPort p).si = s.si := rfl
@[simp] theorem State.setPort_siValid (p : List Request) : (s.setPort p).siValid = s.siValid := rfl
@[simp] theorem State.setPort_fr (p : List Request) : (s.setPort p).fr = s.fr := rfl
@[simp] theorem State.setPort_frValid (p : List Request) : (s.setPort p).frValid = s.frValid := rfl
@[simp] theorem State.setPort_sb0 (p : List Request) : (s.setPort p).sb0 = s.sb0 := rfl
@[simp] theorem State.setPort_sb1 (p : List Request) : (s.setPort p).sb1 = s.sb1 := rfl
@[simp] theorem State.setPort_sbFree (p : List Request) : (s.setPort p).sbFree = s.sbFree := rfl
@[simp] theorem State.setPort_coef (p : List Request) : (s.setPort p).coef = s.coef := rfl
@[simp] theorem State.setPort_lpcPrec (p : List Request) : (s.setPort p).lpcPrec = s.lpcPrec := rfl
@[simp] theorem State.setPort_lpcShift (p : List Request) : (s.setPort p).lpcShift = s.lpcShift := rfl
@[simp] theorem State.setPort_work (p : List Request) : (s.setPort p).work = s.work := rfl
@[simp] theorem State.setPort_draw (p : List Request) : (s.setPort p).draw = s.draw := rfl
@[simp] theorem State.setPort_result (p : List Request) : (s.setPort p).result = s.result := rfl
@[simp] theorem State.setPort_port (p : List Request) : (s.setPort p).port = p := rfl

/-! `setLpcPrec` -/

@[simp] theorem State.setLpcPrec_stream (p : Nat) : (s.setLpcPrec p).stream = s.stream := rfl
@[simp] theorem State.setLpcPrec_capacity (p : Nat) : (s.setLpcPrec p).capacity = s.capacity := rfl
@[simp] theorem State.setLpcPrec_bitpos (p : Nat) : (s.setLpcPrec p).bitpos = s.bitpos := rfl
@[simp] theorem State.setLpcPrec_decState (p : Nat) : (s.setLpcPrec p).decState = s.decState := rfl
@[simp] theorem State.setLpcPrec_fault (p : Nat) : (s.setLpcPrec p).fault = s.fault := rfl
@[simp] theorem State.setLpcPrec_faultKind (p : Nat) : (s.setLpcPrec p).faultKind = s.faultKind := rfl
@[simp] theorem State.setLpcPrec_faultCause (p : Nat) : (s.setLpcPrec p).faultCause = s.faultCause := rfl
@[simp] theorem State.setLpcPrec_faultInfo (p : Nat) : (s.setLpcPrec p).faultInfo = s.faultInfo := rfl
@[simp] theorem State.setLpcPrec_si (p : Nat) : (s.setLpcPrec p).si = s.si := rfl
@[simp] theorem State.setLpcPrec_siValid (p : Nat) : (s.setLpcPrec p).siValid = s.siValid := rfl
@[simp] theorem State.setLpcPrec_fr (p : Nat) : (s.setLpcPrec p).fr = s.fr := rfl
@[simp] theorem State.setLpcPrec_frValid (p : Nat) : (s.setLpcPrec p).frValid = s.frValid := rfl
@[simp] theorem State.setLpcPrec_sb0 (p : Nat) : (s.setLpcPrec p).sb0 = s.sb0 := rfl
@[simp] theorem State.setLpcPrec_sb1 (p : Nat) : (s.setLpcPrec p).sb1 = s.sb1 := rfl
@[simp] theorem State.setLpcPrec_sbFree (p : Nat) : (s.setLpcPrec p).sbFree = s.sbFree := rfl
@[simp] theorem State.setLpcPrec_coef (p : Nat) : (s.setLpcPrec p).coef = s.coef := rfl
@[simp] theorem State.setLpcPrec_lpcPrec (p : Nat) : (s.setLpcPrec p).lpcPrec = BitVec.ofNat 5 p := rfl
@[simp] theorem State.setLpcPrec_lpcShift (p : Nat) : (s.setLpcPrec p).lpcShift = s.lpcShift := rfl
@[simp] theorem State.setLpcPrec_work (p : Nat) : (s.setLpcPrec p).work = s.work := rfl
@[simp] theorem State.setLpcPrec_draw (p : Nat) : (s.setLpcPrec p).draw = s.draw := rfl
@[simp] theorem State.setLpcPrec_result (p : Nat) : (s.setLpcPrec p).result = s.result := rfl
@[simp] theorem State.setLpcPrec_port (p : Nat) : (s.setLpcPrec p).port = s.port := rfl

/-! `setLpcShift` -/

@[simp] theorem State.setLpcShift_stream (v : Int) : (s.setLpcShift v).stream = s.stream := rfl
@[simp] theorem State.setLpcShift_capacity (v : Int) : (s.setLpcShift v).capacity = s.capacity := rfl
@[simp] theorem State.setLpcShift_bitpos (v : Int) : (s.setLpcShift v).bitpos = s.bitpos := rfl
@[simp] theorem State.setLpcShift_decState (v : Int) : (s.setLpcShift v).decState = s.decState := rfl
@[simp] theorem State.setLpcShift_fault (v : Int) : (s.setLpcShift v).fault = s.fault := rfl
@[simp] theorem State.setLpcShift_faultKind (v : Int) : (s.setLpcShift v).faultKind = s.faultKind := rfl
@[simp] theorem State.setLpcShift_faultCause (v : Int) : (s.setLpcShift v).faultCause = s.faultCause := rfl
@[simp] theorem State.setLpcShift_faultInfo (v : Int) : (s.setLpcShift v).faultInfo = s.faultInfo := rfl
@[simp] theorem State.setLpcShift_si (v : Int) : (s.setLpcShift v).si = s.si := rfl
@[simp] theorem State.setLpcShift_siValid (v : Int) : (s.setLpcShift v).siValid = s.siValid := rfl
@[simp] theorem State.setLpcShift_fr (v : Int) : (s.setLpcShift v).fr = s.fr := rfl
@[simp] theorem State.setLpcShift_frValid (v : Int) : (s.setLpcShift v).frValid = s.frValid := rfl
@[simp] theorem State.setLpcShift_sb0 (v : Int) : (s.setLpcShift v).sb0 = s.sb0 := rfl
@[simp] theorem State.setLpcShift_sb1 (v : Int) : (s.setLpcShift v).sb1 = s.sb1 := rfl
@[simp] theorem State.setLpcShift_sbFree (v : Int) : (s.setLpcShift v).sbFree = s.sbFree := rfl
@[simp] theorem State.setLpcShift_coef (v : Int) : (s.setLpcShift v).coef = s.coef := rfl
@[simp] theorem State.setLpcShift_lpcPrec (v : Int) : (s.setLpcShift v).lpcPrec = s.lpcPrec := rfl
@[simp] theorem State.setLpcShift_lpcShift (v : Int) : (s.setLpcShift v).lpcShift = BitVec.ofInt 5 v := rfl
@[simp] theorem State.setLpcShift_work (v : Int) : (s.setLpcShift v).work = s.work := rfl
@[simp] theorem State.setLpcShift_draw (v : Int) : (s.setLpcShift v).draw = s.draw := rfl
@[simp] theorem State.setLpcShift_result (v : Int) : (s.setLpcShift v).result = s.result := rfl
@[simp] theorem State.setLpcShift_port (v : Int) : (s.setLpcShift v).port = s.port := rfl

/-! `setCoef` -/

@[simp] theorem State.setCoef_stream (j : Nat) (v : Int) : (s.setCoef j v).stream = s.stream := rfl
@[simp] theorem State.setCoef_capacity (j : Nat) (v : Int) : (s.setCoef j v).capacity = s.capacity := rfl
@[simp] theorem State.setCoef_bitpos (j : Nat) (v : Int) : (s.setCoef j v).bitpos = s.bitpos := rfl
@[simp] theorem State.setCoef_decState (j : Nat) (v : Int) : (s.setCoef j v).decState = s.decState := rfl
@[simp] theorem State.setCoef_fault (j : Nat) (v : Int) : (s.setCoef j v).fault = s.fault := rfl
@[simp] theorem State.setCoef_faultKind (j : Nat) (v : Int) : (s.setCoef j v).faultKind = s.faultKind := rfl
@[simp] theorem State.setCoef_faultCause (j : Nat) (v : Int) : (s.setCoef j v).faultCause = s.faultCause := rfl
@[simp] theorem State.setCoef_faultInfo (j : Nat) (v : Int) : (s.setCoef j v).faultInfo = s.faultInfo := rfl
@[simp] theorem State.setCoef_si (j : Nat) (v : Int) : (s.setCoef j v).si = s.si := rfl
@[simp] theorem State.setCoef_siValid (j : Nat) (v : Int) : (s.setCoef j v).siValid = s.siValid := rfl
@[simp] theorem State.setCoef_fr (j : Nat) (v : Int) : (s.setCoef j v).fr = s.fr := rfl
@[simp] theorem State.setCoef_frValid (j : Nat) (v : Int) : (s.setCoef j v).frValid = s.frValid := rfl
@[simp] theorem State.setCoef_sb0 (j : Nat) (v : Int) : (s.setCoef j v).sb0 = s.sb0 := rfl
@[simp] theorem State.setCoef_sb1 (j : Nat) (v : Int) : (s.setCoef j v).sb1 = s.sb1 := rfl
@[simp] theorem State.setCoef_sbFree (j : Nat) (v : Int) : (s.setCoef j v).sbFree = s.sbFree := rfl
@[simp] theorem State.setCoef_coef (j : Nat) (v : Int) : (s.setCoef j v).coef = s.coef.setIfInBounds j (BitVec.ofInt 16 v) := rfl
@[simp] theorem State.setCoef_lpcPrec (j : Nat) (v : Int) : (s.setCoef j v).lpcPrec = s.lpcPrec := rfl
@[simp] theorem State.setCoef_lpcShift (j : Nat) (v : Int) : (s.setCoef j v).lpcShift = s.lpcShift := rfl
@[simp] theorem State.setCoef_work (j : Nat) (v : Int) : (s.setCoef j v).work = s.work := rfl
@[simp] theorem State.setCoef_draw (j : Nat) (v : Int) : (s.setCoef j v).draw = s.draw := rfl
@[simp] theorem State.setCoef_result (j : Nat) (v : Int) : (s.setCoef j v).result = s.result := rfl
@[simp] theorem State.setCoef_port (j : Nat) (v : Int) : (s.setCoef j v).port = s.port := rfl

/-! `clearSamples` -/

@[simp] theorem State.clearSamples_stream : (s.clearSamples).stream = s.stream := rfl
@[simp] theorem State.clearSamples_capacity : (s.clearSamples).capacity = s.capacity := rfl
@[simp] theorem State.clearSamples_bitpos : (s.clearSamples).bitpos = s.bitpos := rfl
@[simp] theorem State.clearSamples_decState : (s.clearSamples).decState = s.decState := rfl
@[simp] theorem State.clearSamples_fault : (s.clearSamples).fault = s.fault := rfl
@[simp] theorem State.clearSamples_faultKind : (s.clearSamples).faultKind = s.faultKind := rfl
@[simp] theorem State.clearSamples_faultCause : (s.clearSamples).faultCause = s.faultCause := rfl
@[simp] theorem State.clearSamples_faultInfo : (s.clearSamples).faultInfo = s.faultInfo := rfl
@[simp] theorem State.clearSamples_si : (s.clearSamples).si = s.si := rfl
@[simp] theorem State.clearSamples_siValid : (s.clearSamples).siValid = s.siValid := rfl
@[simp] theorem State.clearSamples_fr : (s.clearSamples).fr = s.fr := rfl
@[simp] theorem State.clearSamples_frValid : (s.clearSamples).frValid = s.frValid := rfl
@[simp] theorem State.clearSamples_sb0 : (s.clearSamples).sb0 = [] := rfl
@[simp] theorem State.clearSamples_sb1 : (s.clearSamples).sb1 = [] := rfl
@[simp] theorem State.clearSamples_sbFree : (s.clearSamples).sbFree = s.draw := rfl
@[simp] theorem State.clearSamples_coef : (s.clearSamples).coef = s.coef := rfl
@[simp] theorem State.clearSamples_lpcPrec : (s.clearSamples).lpcPrec = s.lpcPrec := rfl
@[simp] theorem State.clearSamples_lpcShift : (s.clearSamples).lpcShift = s.lpcShift := rfl
@[simp] theorem State.clearSamples_work : (s.clearSamples).work = s.work := rfl
@[simp] theorem State.clearSamples_draw : (s.clearSamples).draw = s.draw + 1 := rfl
@[simp] theorem State.clearSamples_result : (s.clearSamples).result = s.result := rfl
@[simp] theorem State.clearSamples_port : (s.clearSamples).port = s.port := rfl

/-! `finish` -/

@[simp] theorem State.finish_stream : (s.finish).stream = s.stream := rfl
@[simp] theorem State.finish_capacity : (s.finish).capacity = s.capacity := rfl
@[simp] theorem State.finish_bitpos : (s.finish).bitpos = s.bitpos := rfl
@[simp] theorem State.finish_decState : (s.finish).decState = s.decState := rfl
@[simp] theorem State.finish_fault : (s.finish).fault = s.fault := rfl
@[simp] theorem State.finish_faultKind : (s.finish).faultKind = s.faultKind := rfl
@[simp] theorem State.finish_faultCause : (s.finish).faultCause = s.faultCause := rfl
@[simp] theorem State.finish_faultInfo : (s.finish).faultInfo = s.faultInfo := rfl
@[simp] theorem State.finish_si : (s.finish).si = s.si := rfl
@[simp] theorem State.finish_siValid : (s.finish).siValid = s.siValid := rfl
@[simp] theorem State.finish_fr : (s.finish).fr = s.fr := rfl
@[simp] theorem State.finish_frValid : (s.finish).frValid = s.frValid := rfl
@[simp] theorem State.finish_sb0 : (s.finish).sb0 = s.sb0 := rfl
@[simp] theorem State.finish_sb1 : (s.finish).sb1 = s.sb1 := rfl
@[simp] theorem State.finish_sbFree : (s.finish).sbFree = s.sbFree := rfl
@[simp] theorem State.finish_coef : (s.finish).coef = freeCoefFile s.draw := rfl
@[simp] theorem State.finish_lpcPrec : (s.finish).lpcPrec = Config.freeLpcPrec s.draw := rfl
@[simp] theorem State.finish_lpcShift : (s.finish).lpcShift = Config.freeLpcShift s.draw := rfl
@[simp] theorem State.finish_work : (s.finish).work = Config.freeWork s.draw := rfl
@[simp] theorem State.finish_draw : (s.finish).draw = s.draw + 1 := rfl
@[simp] theorem State.finish_result : (s.finish).result = s.result := rfl
@[simp] theorem State.finish_port : (s.finish).port = s.port := rfl

/-! `align` -/

@[simp] theorem State.align_stream : (s.align).stream = s.stream := rfl
@[simp] theorem State.align_capacity : (s.align).capacity = s.capacity := rfl
@[simp] theorem State.align_bitpos : (s.align).bitpos = s.bitpos + padWidth s.bitpos := rfl
@[simp] theorem State.align_decState : (s.align).decState = s.decState := rfl
@[simp] theorem State.align_fault : (s.align).fault = s.fault := rfl
@[simp] theorem State.align_faultKind : (s.align).faultKind = s.faultKind := rfl
@[simp] theorem State.align_faultCause : (s.align).faultCause = s.faultCause := rfl
@[simp] theorem State.align_faultInfo : (s.align).faultInfo = s.faultInfo := rfl
@[simp] theorem State.align_si : (s.align).si = s.si := rfl
@[simp] theorem State.align_siValid : (s.align).siValid = s.siValid := rfl
@[simp] theorem State.align_fr : (s.align).fr = s.fr := rfl
@[simp] theorem State.align_frValid : (s.align).frValid = s.frValid := rfl
@[simp] theorem State.align_sb0 : (s.align).sb0 = s.sb0 := rfl
@[simp] theorem State.align_sb1 : (s.align).sb1 = s.sb1 := rfl
@[simp] theorem State.align_sbFree : (s.align).sbFree = s.sbFree := rfl
@[simp] theorem State.align_coef : (s.align).coef = s.coef := rfl
@[simp] theorem State.align_lpcPrec : (s.align).lpcPrec = s.lpcPrec := rfl
@[simp] theorem State.align_lpcShift : (s.align).lpcShift = s.lpcShift := rfl
@[simp] theorem State.align_work : (s.align).work = s.work := rfl
@[simp] theorem State.align_draw : (s.align).draw = s.draw := rfl
@[simp] theorem State.align_result : (s.align).result = s.result := rfl
@[simp] theorem State.align_port : (s.align).port = s.port := rfl

/-! `setChannel` -/

@[simp] theorem State.setChannel_stream (c : Nat) (m : List (Nat × Cell)) : (s.setChannel c m).stream = s.stream := by
  unfold State.setChannel; split <;> rfl
@[simp] theorem State.setChannel_capacity (c : Nat) (m : List (Nat × Cell)) : (s.setChannel c m).capacity = s.capacity := by
  unfold State.setChannel; split <;> rfl
@[simp] theorem State.setChannel_bitpos (c : Nat) (m : List (Nat × Cell)) : (s.setChannel c m).bitpos = s.bitpos := by
  unfold State.setChannel; split <;> rfl
@[simp] theorem State.setChannel_decState (c : Nat) (m : List (Nat × Cell)) : (s.setChannel c m).decState = s.decState := by
  unfold State.setChannel; split <;> rfl
@[simp] theorem State.setChannel_fault (c : Nat) (m : List (Nat × Cell)) : (s.setChannel c m).fault = s.fault := by
  unfold State.setChannel; split <;> rfl
@[simp] theorem State.setChannel_faultKind (c : Nat) (m : List (Nat × Cell)) : (s.setChannel c m).faultKind = s.faultKind := by
  unfold State.setChannel; split <;> rfl
@[simp] theorem State.setChannel_faultCause (c : Nat) (m : List (Nat × Cell)) : (s.setChannel c m).faultCause = s.faultCause := by
  unfold State.setChannel; split <;> rfl
@[simp] theorem State.setChannel_faultInfo (c : Nat) (m : List (Nat × Cell)) : (s.setChannel c m).faultInfo = s.faultInfo := by
  unfold State.setChannel; split <;> rfl
@[simp] theorem State.setChannel_si (c : Nat) (m : List (Nat × Cell)) : (s.setChannel c m).si = s.si := by
  unfold State.setChannel; split <;> rfl
@[simp] theorem State.setChannel_siValid (c : Nat) (m : List (Nat × Cell)) : (s.setChannel c m).siValid = s.siValid := by
  unfold State.setChannel; split <;> rfl
@[simp] theorem State.setChannel_fr (c : Nat) (m : List (Nat × Cell)) : (s.setChannel c m).fr = s.fr := by
  unfold State.setChannel; split <;> rfl
@[simp] theorem State.setChannel_frValid (c : Nat) (m : List (Nat × Cell)) : (s.setChannel c m).frValid = s.frValid := by
  unfold State.setChannel; split <;> rfl
@[simp] theorem State.setChannel_sbFree (c : Nat) (m : List (Nat × Cell)) : (s.setChannel c m).sbFree = s.sbFree := by
  unfold State.setChannel; split <;> rfl
@[simp] theorem State.setChannel_coef (c : Nat) (m : List (Nat × Cell)) : (s.setChannel c m).coef = s.coef := by
  unfold State.setChannel; split <;> rfl
@[simp] theorem State.setChannel_lpcPrec (c : Nat) (m : List (Nat × Cell)) : (s.setChannel c m).lpcPrec = s.lpcPrec := by
  unfold State.setChannel; split <;> rfl
@[simp] theorem State.setChannel_lpcShift (c : Nat) (m : List (Nat × Cell)) : (s.setChannel c m).lpcShift = s.lpcShift := by
  unfold State.setChannel; split <;> rfl
@[simp] theorem State.setChannel_work (c : Nat) (m : List (Nat × Cell)) : (s.setChannel c m).work = s.work := by
  unfold State.setChannel; split <;> rfl
@[simp] theorem State.setChannel_draw (c : Nat) (m : List (Nat × Cell)) : (s.setChannel c m).draw = s.draw := by
  unfold State.setChannel; split <;> rfl
@[simp] theorem State.setChannel_result (c : Nat) (m : List (Nat × Cell)) : (s.setChannel c m).result = s.result := by
  unfold State.setChannel; split <;> rfl
@[simp] theorem State.setChannel_port (c : Nat) (m : List (Nat × Cell)) : (s.setChannel c m).port = s.port := by
  unfold State.setChannel; split <;> rfl

@[simp] theorem State.channel_setChannel_same (c : Nat) (m : List (Nat × Cell)) :
    (s.setChannel c m).channel c = m := by
  unfold State.channel State.setChannel; split <;> rfl

theorem State.channel_setChannel_other (c d : Nat) (m : List (Nat × Cell)) (h : (c = 0) ≠ (d = 0)) :
    (s.setChannel c m).channel d = s.channel d := by
  unfold State.channel State.setChannel
  by_cases hc : c = 0 <;> by_cases hd : d = 0 <;> simp_all

/-! Construction -/


@[simp] theorem State.construct_stream (st : List Byte) (n : Nat) : (State.construct st n).stream = st := rfl
@[simp] theorem State.construct_capacity (st : List Byte) (n : Nat) : (State.construct st n).capacity = n := rfl
@[simp] theorem State.construct_bitpos (st : List Byte) (n : Nat) : (State.construct st n).bitpos = 0 := rfl
@[simp] theorem State.construct_decState (st : List Byte) (n : Nat) : (State.construct st n).decState = .init := rfl
@[simp] theorem State.construct_fault (st : List Byte) (n : Nat) : (State.construct st n).fault = false := rfl
@[simp] theorem State.construct_si (st : List Byte) (n : Nat) : (State.construct st n).si = StreamInfo.atReset := rfl
@[simp] theorem State.construct_siValid (st : List Byte) (n : Nat) : (State.construct st n).siValid = false := rfl
@[simp] theorem State.construct_fr (st : List Byte) (n : Nat) : (State.construct st n).fr = FrameRegs.atReset := rfl
@[simp] theorem State.construct_frValid (st : List Byte) (n : Nat) : (State.construct st n).frValid = false := rfl
@[simp] theorem State.construct_sb0 (st : List Byte) (n : Nat) : (State.construct st n).sb0 = [] := rfl
@[simp] theorem State.construct_sb1 (st : List Byte) (n : Nat) : (State.construct st n).sb1 = [] := rfl
@[simp] theorem State.construct_port (st : List Byte) (n : Nat) : (State.construct st n).port = [] := rfl

/-! Two updates in a row -/

@[simp] theorem State.setBitpos_setBitpos (p q : Nat) : (s.setBitpos p).setBitpos q = s.setBitpos q := rfl

@[simp] theorem State.setWork_setWork (v w : Work) : (s.setWork v).setWork w = s.setWork w := rfl

@[simp] theorem State.scramble_setBitpos (p : Nat) : (s.setBitpos p).scramble = s.scramble := rfl

@[simp] theorem State.scramble_setWork (w : Work) : (s.setWork w).scramble = s.scramble := rfl

@[simp] theorem State.finish_setWork (w : Work) : (s.setWork w).finish = s.finish := rfl

/-! The bit length follows the stream -/

@[simp] theorem State.bitLength_congr (t : State) (h : t.stream = s.stream) : t.bitLength = s.bitLength := by
  simp [State.bitLength, h]

end Sys2Proof.Machine
end

