-- ==== Sys2Proof/Laws/Ops.lean ====
section
/-! SUPPORT. Everything the shared operations can do, said once: sequencing and loops, the fault latch, the bit source,
the sample buffer. -/

namespace Sys2Proof.Machine

/-! ## Two ways to speak of an answer -/

/-- If the machine goes on, it goes on in a state with `P`. -/
def Post (P : State → Prop) (o : Out) : Prop := ∀ t, o = .next t → P t

/-- The machine goes on. -/
def Answers (o : Out) : Prop := ∃ t, o = .next t

@[simp] theorem post_next (P : State → Prop) (s : State) : Post P (.next s) ↔ P s := by
  constructor
  · intro h; exact h s rfl
  · intro h t ht; cases ht; exact h

@[simp] theorem post_fault (P : State → Prop) (r : Fault) : Post P (.fault r) := by intro t h; cases h

@[simp] theorem post_refused (P : State → Prop) (r : Refusal) : Post P (.refused r) := by intro t h; cases h

theorem Post.mono {P Q : State → Prop} {o : Out} (h : Post P o) (hpq : ∀ t, P t → Q t) : Post Q o :=
  fun t ht => hpq t (h t ht)

theorem Post.and {P Q : State → Prop} {o : Out} (hp : Post P o) (hq : Post Q o) : Post (fun t => P t ∧ Q t) o :=
  fun t ht => ⟨hp t ht, hq t ht⟩

@[simp] theorem answers_next (s : State) : Answers (.next s) := ⟨s, rfl⟩

/-! ## Sequencing -/

theorem seq_live {s : State} (f : State → Out) (h : s.fault = false) : seq (.next s) f = f s := by simp [seq, h]

theorem seq_faulted {s : State} (f : State → Out) (h : s.fault = true) : seq (.next s) f = .next s := by simp [seq, h]

/-- The inversion of `seq`: it stops at a latched fault, else the second statement ran. -/
theorem seq_eq_next {o : Out} {f : State → Out} {t : State} (h : seq o f = .next t) :
    (o = .next t ∧ t.fault = true) ∨ ∃ s, o = .next s ∧ s.fault = false ∧ f s = .next t := by
  cases o with
  | next s =>
    by_cases hs : s.fault
    · simp [seq, hs] at h; subst h; exact .inl ⟨rfl, hs⟩
    · simp [seq, hs] at h; exact .inr ⟨s, rfl, by simpa using hs, h⟩
  | fault r => cases h
  | refused r => cases h

/-- A sequence that ends without a fault had a first statement that ended without one. -/
theorem seq_eq_next_ok {o : Out} {f : State → Out} {t : State} (h : seq o f = .next t) (ht : t.fault = false) :
    ∃ s, o = .next s ∧ s.fault = false ∧ f s = .next t := by
  rcases seq_eq_next h with ⟨_, hf⟩ | h
  · simp [ht] at hf
  · exact h

theorem post_seq {P Q : State → Prop} {o : Out} {f : State → Out} (ho : Post Q o)
    (hstop : ∀ s, Q s → s.fault = true → P s) (hf : ∀ s, Q s → s.fault = false → Post P (f s)) : Post P (seq o f) := by
  intro t ht
  rcases seq_eq_next ht with ⟨h, hfault⟩ | ⟨s, h, hs, hft⟩
  · exact hstop t (ho t h) hfault
  · exact hf s (ho s h) hs t hft

/-- A property that holds after a statement and is kept by the next one holds after both. -/
theorem post_seq_inv {P : State → Prop} {o : Out} {f : State → Out} (ho : Post P o) (hf : ∀ s, P s → Post P (f s)) :
    Post P (seq o f) := post_seq ho (fun _ h _ => h) (fun s h _ => hf s h)

theorem answers_seq {Q : State → Prop} {o : Out} {f : State → Out} (ho : Answers o) (hq : Post Q o)
    (hf : ∀ s, Q s → s.fault = false → Answers (f s)) : Answers (seq o f) := by
  obtain ⟨s, rfl⟩ := ho
  have hqs := (post_next Q s).1 hq
  by_cases hs : s.fault
  · exact ⟨s, seq_faulted f hs⟩
  · rw [seq_live f (by simpa using hs)]; exact hf s hqs (by simpa using hs)

/-! ## Loops -/

@[simp] theorem forRange_zero (start : Nat) (f : Nat → State → Out) (s : State) : forRange 0 start f s = .next s := rfl

theorem forRange_succ (count start : Nat) (f : Nat → State → Out) (s : State) :
    forRange (count + 1) start f s = seq (f start s) (forRange count (start + 1) f) := rfl

/-- A property every round keeps holds after the loop. -/
theorem post_forRange {P : State → Prop} {f : Nat → State → Out} (hf : ∀ i s, P s → Post P (f i s)) (count start : Nat)
    (s : State) (h : P s) : Post P (forRange count start f s) := by
  induction count generalizing start s with
  | zero => simpa using h
  | succ count ih => exact post_seq_inv (hf start s h) fun t ht => ih (start + 1) t ht

/-- The loop rule with an index: `I i` before round `i` gives `I (start + count)` at the end, unless a fault is
latched. -/
theorem post_forRange_index {I : Nat → State → Prop} {f : Nat → State → Out} (count start : Nat) (s : State)
    (hf : ∀ i s, start ≤ i → i < start + count → I i s → Post (fun t => t.fault = false → I (i + 1) t) (f i s))
    (h : I start s) : Post (fun t => t.fault = false → I (start + count) t) (forRange count start f s) := by
  induction count generalizing start s with
  | zero => simpa using fun _ => h
  | succ count ih =>
    refine post_seq (hf start s (le_refl _) (by omega) h) (fun t _ hft hff => by simp [hft] at hff) fun t ht hlive => ?_
    have := ih (start + 1) t (fun i u h₁ h₂ => hf i u (by omega) (by omega)) (ht hlive)
    rwa [show start + 1 + count = start + (count + 1) by omega] at this

/-- If every round answers from the states with `I`, and keeps `I`, the loop answers. -/
theorem answers_forRange {I : Nat → State → Prop} {f : Nat → State → Out} (count start : Nat) (s : State)
    (hf : ∀ i s, start ≤ i → i < start + count → I i s →
      Answers (f i s) ∧ Post (fun t => t.fault = false → I (i + 1) t) (f i s))
    (h : I start s) : Answers (forRange count start f s) := by
  induction count generalizing start s with
  | zero => exact ⟨s, rfl⟩
  | succ count ih =>
    obtain ⟨ha, hp⟩ := hf start s (le_refl _) (by omega) h
    exact answers_seq ha hp fun t ht hlive =>
      ih (start + 1) t (fun i u h₁ h₂ => hf i u (by omega) (by omega)) (ht hlive)

/-- The loop rule for a run without a fault: if every round goes on without one and takes `I i` to `I (i + 1)`, the loop
goes on without one to `I (start + count)`. -/
theorem forRange_total {I : Nat → State → Prop} {f : Nat → State → Out} (count start : Nat) (s : State)
    (hf : ∀ i s, start ≤ i → i < start + count → s.fault = false → I i s →
      ∃ t, f i s = .next t ∧ t.fault = false ∧ I (i + 1) t)
    (hs : s.fault = false) (h : I start s) :
    ∃ t, forRange count start f s = .next t ∧ t.fault = false ∧ I (start + count) t := by
  induction count generalizing start s with
  | zero => exact ⟨s, rfl, hs, h⟩
  | succ count ih =>
    obtain ⟨u, hu, hul, hui⟩ := hf start s (le_refl _) (by omega) hs h
    obtain ⟨t, ht, htl, hti⟩ := ih (start + 1) u (fun i v h₁ h₂ => hf i v (by omega) (by omega)) hul hui
    refine ⟨t, ?_, htl, by rwa [show start + 1 + count = start + (count + 1) by omega] at hti⟩
    rw [forRange_succ, hu, seq_live _ hul, ht]

/-- The loop rule for a run that faults: every round either goes on without a fault, keeping `I`, or ends with an
answer in `F`; a round that cannot go on exists; then the loop ends with an answer in `F`. -/
theorem forRange_faults {I : Nat → State → Prop} {F : Out → Prop} {f : Nat → State → Out} (count start bad : Nat)
    (s : State) (hbad : start ≤ bad) (hlt : bad < start + count)
    (hF : ∀ o g, F o → F (seq o g))
    (hf : ∀ i s, start ≤ i → i < start + count → s.fault = false → I i s →
      (i ≠ bad ∧ ∃ t, f i s = .next t ∧ t.fault = false ∧ I (i + 1) t) ∨ F (f i s))
    (hs : s.fault = false) (h : I start s) : F (forRange count start f s) := by
  induction count generalizing start s with
  | zero => omega
  | succ count ih =>
    rw [forRange_succ]
    rcases hf start s (le_refl _) (by omega) hs h with ⟨hne, u, hu, hul, hui⟩ | hfail
    · rw [hu, seq_live _ hul]
      exact ih (start + 1) u (by omega) (by omega) (fun i v h₁ h₂ => hf i v (by omega) (by omega)) hul hui
    · exact hF _ _ hfail

/-! ## The fault latch -/

theorem raise_eq (r : Raise) (s : State) : raise r s = .next (s.scramble.latch r) := rfl

@[simp] theorem answers_raise (r : Raise) (s : State) : Answers (raise r s) := ⟨_, rfl⟩

/-- Everything fault entry does: the latch is set, `F_VALID` is 0, `STATE`, `STREAM`, `N` stay, `BITPOS` keeps its
bound and no sample cell is specified. -/
theorem raise_spec (r : Raise) (s : State) :
    Post (fun t => t.fault = true ∧ t.faultCause = r.cause ∧ t.faultKind = causeKind r.cause ∧ t.faultInfo = r.info ∧
      t.decState = s.decState ∧ t.frValid = false ∧ t.stream = s.stream ∧ t.capacity = s.capacity ∧
      t.bitpos ≤ s.bitLength ∧ t.sb0 = [] ∧ t.sb1 = [] ∧ t.port = s.port ∧ t.result = s.result) (raise r s) := by
  rw [raise_eq, post_next]
  exact ⟨rfl, rfl, rfl, rfl, rfl, rfl, rfl, rfl, Nat.lt_succ_iff.1 (Nat.mod_lt _ (Nat.succ_pos _)), rfl, rfl, rfl, rfl⟩

/-- A fault raised in a state with the same `STATE`, stream, capacity, port and result is a fault of `s`. -/
theorem faultsWith_raise {s u : State} {r : Raise} (hd : u.decState = s.decState) (hs : u.stream = s.stream)
    (hc : u.capacity = s.capacity) (hp : u.port = s.port) (hr : u.result = s.result) : FaultsWith (raise r u) s r :=
  ⟨_, rfl, rfl, rfl, rfl, rfl, hd, rfl, hs, hc, hp, hr⟩

/-- A fault ends the sequence it stands in. -/
theorem FaultsWith.seq {o : Out} {s : State} {r : Raise} (h : FaultsWith o s r) (f : State → Out) :
    FaultsWith (seq o f) s r := by
  obtain ⟨t, rfl, ht⟩ := h
  exact ⟨t, seq_faulted f ht.1, ht⟩

/-- Where the bits stood when the fault was raised does not matter. -/
@[simp] theorem raise_setBitpos (r : Raise) (s : State) (p : Nat) : raise r (s.setBitpos p) = raise r s := rfl

/-- The working registers do not matter when a fault is raised. -/
@[simp] theorem raise_setWork (r : Raise) (s : State) (w : Work) : raise r (s.setWork w) = raise r s := rfl

theorem post_raise {P : State → Prop} (r : Raise) (s : State) (h : P (s.scramble.latch r)) : Post P (raise r s) :=
  (post_next P _).2 h

/-! ## Guards -/

theorem live_ok {s : State} (f : State → Out) (h : s.fault = false) : live s f = f s := by simp [live, h]

theorem live_faulted {s : State} (f : State → Out) (h : s.fault = true) : live s f = .next s := by simp [live, h]

theorem post_live {P : State → Prop} {s : State} {f : State → Out} (hs : s.fault = true → P s)
    (hf : s.fault = false → Post P (f s)) : Post P (live s f) := by
  by_cases h : s.fault
  · rw [live_faulted f h]; simpa using hs h
  · rw [live_ok f (by simpa using h)]; exact hf (by simpa using h)

theorem answers_live {s : State} {f : State → Out} (hf : s.fault = false → Answers (f s)) : Answers (live s f) := by
  by_cases h : s.fault
  · exact ⟨s, live_faulted f h⟩
  · rw [live_ok f (by simpa using h)]; exact hf (by simpa using h)

/-! ## The bit source -/

theorem consume_ok {n : Nat} {s : State} (f : State → Out) (h : s.bitpos + n ≤ s.bitLength) :
    consume n s f = f (s.setBitpos (s.bitpos + n)) := by simp [consume, h]

theorem consume_short {n : Nat} {s : State} (f : State → Out) (h : s.bitLength < s.bitpos + n) :
    consume n s f = raise .endOfStream s := by simp [consume, Nat.not_le.2 h]

theorem post_consume {P : State → Prop} {n : Nat} {s : State} {f : State → Out}
    (hr : P (s.scramble.latch .endOfStream))
    (hf : s.bitpos + n ≤ s.bitLength → Post P (f (s.setBitpos (s.bitpos + n)))) : Post P (consume n s f) := by
  by_cases h : s.bitpos + n ≤ s.bitLength
  · rw [consume_ok f h]; exact hf h
  · rw [consume_short f (by omega)]; exact post_raise _ _ hr

theorem element_ok {n : Nat} {s : State} (f : State → Out) (hl : s.fault = false) (h : s.bitpos + n ≤ s.bitLength) :
    element n s f = f (s.setBitpos (s.bitpos + n)) := by simp [element, live_ok _ hl, consume_ok f h]

theorem element_faulted {n : Nat} {s : State} (f : State → Out) (h : s.fault = true) : element n s f = .next s :=
  live_faulted _ h

theorem element_short {n : Nat} {s : State} (f : State → Out) (hl : s.fault = false)
    (h : s.bitLength < s.bitpos + n) : element n s f = raise .endOfStream s := by
  simp [element, live_ok _ hl, consume_short f h]

/-- Everything an element can do: nothing under a latched fault, P11, or its effect after its bits. -/
theorem post_element {P : State → Prop} {n : Nat} {s : State} {f : State → Out} (hs : s.fault = true → P s)
    (hr : s.fault = false → P (s.scramble.latch .endOfStream))
    (hf : s.fault = false → s.bitpos + n ≤ s.bitLength → Post P (f (s.setBitpos (s.bitpos + n)))) :
    Post P (element n s f) := post_live hs fun hl => post_consume (hr hl) (hf hl)

theorem answers_element {n : Nat} {s : State} {f : State → Out}
    (hf : s.fault = false → Answers (f (s.setBitpos (s.bitpos + n)))) : Answers (element n s f) := by
  refine answers_live fun hl => ?_
  unfold consume
  split
  · exact hf hl
  · exact answers_raise _ _

theorem withUint_ok {n : Nat} {s : State} (f : Nat → State → Out) (h : s.bitpos + n ≤ s.bitLength) :
    withUint n s f = f (memRead s.stream s.bitpos n) (s.setBitpos (s.bitpos + n)) := by
  unfold withUint
  split
  · subst n; rfl
  · exact consume_ok _ h

theorem withUint_short {n : Nat} {s : State} (f : Nat → State → Out) (hn : 0 < n) (h : s.bitLength < s.bitpos + n) :
    withUint n s f = raise .endOfStream s := by
  rw [withUint, if_neg (by omega), consume_short _ h]

theorem withInt_ok {n : Nat} {s : State} (f : Int → State → Out) (h : s.bitpos + n ≤ s.bitLength) :
    withInt n s f = f (sext n (memRead s.stream s.bitpos n)) (s.setBitpos (s.bitpos + n)) := withUint_ok _ h

/-- Every read of `n` bits: the value and the new position, or P11. -/
theorem post_withUint {P : State → Prop} {n : Nat} {s : State} {f : Nat → State → Out}
    (hr : P (s.scramble.latch .endOfStream))
    (hf : s.bitpos + n ≤ s.bitLength ∨ n = 0 →
      Post P (f (memRead s.stream s.bitpos n) (s.setBitpos (s.bitpos + n)))) : Post P (withUint n s f) := by
  by_cases h0 : n = 0
  · subst h0; exact hf (.inr rfl)
  · rw [withUint, if_neg h0]; exact post_consume hr fun h => hf (.inl h)

theorem answers_withUint {n : Nat} {s : State} {f : Nat → State → Out} (hf : ∀ v p, Answers (f v (s.setBitpos p))) :
    Answers (withUint n s f) := by
  unfold withUint consume
  split
  · exact hf 0 s.bitpos
  · split
    · exact hf _ _
    · exact answers_raise _ _

/-! ## The sample buffer -/

@[simp] theorem lookupCell_insertCell_same (i : Nat) (v : Cell) (m : List (Nat × Cell)) :
    lookupCell i (insertCell i v m) = some v := by
  induction m with
  | nil => simp [insertCell, lookupCell]
  | cons e m ih =>
    obtain ⟨j, u⟩ := e
    by_cases h₁ : j < i
    · simp [insertCell, h₁, lookupCell, ih, Nat.ne_of_lt h₁]
    · by_cases h₂ : j = i
      · simp [insertCell, h₂, lookupCell]
      · simp [insertCell, h₁, h₂, lookupCell]

theorem lookupCell_insertCell_other (i k : Nat) (h : k ≠ i) (v : Cell) (m : List (Nat × Cell)) :
    lookupCell k (insertCell i v m) = lookupCell k m := by
  induction m with
  | nil => simp [insertCell, lookupCell, Ne.symm h]
  | cons e m ih =>
    obtain ⟨j, u⟩ := e
    by_cases h₁ : j < i
    · simp [insertCell, h₁, lookupCell, ih]
    · by_cases h₂ : j = i
      · subst h₂; simp [insertCell, lookupCell, Ne.symm h]
      · simp [insertCell, h₁, h₂, lookupCell, Ne.symm h]

theorem mem_insertCell {i : Nat} {v : Cell} {m : List (Nat × Cell)} {e : Nat × Cell} (h : e ∈ insertCell i v m) :
    e = (i, v) ∨ e ∈ m := by
  induction m with
  | nil => simpa [insertCell] using h
  | cons f m ih =>
    obtain ⟨j, u⟩ := f
    unfold insertCell at h
    split at h
    · rcases List.mem_cons.1 h with h | h
      · exact .inr (by simp [h])
      · rcases ih h with h | h
        · exact .inl h
        · exact .inr (by simp [h])
    · split at h
      · rcases List.mem_cons.1 h with h | h
        · exact .inl h
        · exact .inr (by simp [h])
      · rcases List.mem_cons.1 h with h | h
        · exact .inl h
        · exact .inr h

theorem pairwise_insertCell (i : Nat) (v : Cell) (m : List (Nat × Cell))
    (h : m.Pairwise (fun a b => a.1 < b.1)) : (insertCell i v m).Pairwise (fun a b => a.1 < b.1) := by
  induction m with
  | nil => simp [insertCell]
  | cons e m ih =>
    obtain ⟨j, u⟩ := e
    rw [List.pairwise_cons] at h
    unfold insertCell
    split
    · refine List.pairwise_cons.2 ⟨fun e he => ?_, ih h.2⟩
      rcases mem_insertCell he with rfl | he
      · assumption
      · exact h.1 e he
    · split
      · next h₂ => subst h₂; exact List.pairwise_cons.2 ⟨h.1, h.2⟩
      · refine List.pairwise_cons.2 ⟨fun e he => ?_, List.pairwise_cons.2 h⟩
        rcases List.mem_cons.1 he with rfl | he
        · show i < j; omega
        · have := h.1 e he; show i < e.1; omega

/-- Setting a cell below `N` keeps the canonical form. -/
theorem channelWf_insertCell {n i : Nat} {v : Cell} {m : List (Nat × Cell)} (h : channelWf n m = true) (hi : i < n) :
    channelWf n (insertCell i v m) = true := by
  simp only [channelWf, Bool.and_eq_true, List.all_eq_true, decide_eq_true_eq] at h ⊢
  refine ⟨fun e he => ?_, pairwise_insertCell i v m h.2⟩
  rcases mem_insertCell he with rfl | he
  · exact hi
  · exact h.1 e he

@[simp] theorem channelWf_nil (n : Nat) : channelWf n [] = true := rfl

/-- Two channels in canonical form that read alike are equal lists. -/
theorem channelWf_ext {n : Nat} {m₁ m₂ : List (Nat × Cell)} (h₁ : channelWf n m₁ = true) (h₂ : channelWf n m₂ = true)
    (h : ∀ i, lookupCell i m₁ = lookupCell i m₂) : m₁ = m₂ := by
  have key : ∀ (m : List (Nat × Cell)) (i : Nat), (∀ e ∈ m, i < e.1) → lookupCell i m = none := by
    intro m i hm
    induction m with
    | nil => rfl
    | cons e m ih =>
      have h1 := hm e (by simp)
      simp [lookupCell, Nat.ne_of_gt h1, ih fun f hf => hm f (by simp [hf])]
  simp only [channelWf, Bool.and_eq_true, decide_eq_true_eq] at h₁ h₂
  have p₁ := h₁.2
  have p₂ := h₂.2
  clear h₁ h₂
  induction m₁ generalizing m₂ with
  | nil =>
    cases m₂ with
    | nil => rfl
    | cons e m => have := h e.1; simp [lookupCell] at this
  | cons e₁ m₁ ih =>
    cases m₂ with
    | nil => have := h e₁.1; simp [lookupCell] at this
    | cons e₂ m₂ =>
      rw [List.pairwise_cons] at p₁ p₂
      have hk : e₁.1 = e₂.1 := by
        rcases Nat.lt_trichotomy e₁.1 e₂.1 with hlt | heq | hgt
        · have := h e₁.1
          rw [key (e₂ :: m₂) e₁.1 (by
            intro f hf
            rcases List.mem_cons.1 hf with rfl | hf
            · exact hlt
            · exact lt_trans hlt (p₂.1 f hf))] at this
          simp [lookupCell] at this
        · exact heq
        · have := h e₂.1
          rw [key (e₁ :: m₁) e₂.1 (by
            intro f hf
            rcases List.mem_cons.1 hf with rfl | hf
            · exact hgt
            · exact lt_trans hgt (p₁.1 f hf))] at this
          simp [lookupCell] at this
      obtain ⟨i₁, v₁⟩ := e₁
      obtain ⟨i₂, v₂⟩ := e₂
      simp only at hk
      subst hk
      have hv : v₁ = v₂ := by simpa [lookupCell] using h i₁
      subst hv
      congr 1
      refine ih (fun i => ?_) p₁.2 p₂.2
      by_cases hi : i₁ = i
      · subst hi; rw [key m₁ _ p₁.1, key m₂ _ p₂.1]
      · simpa [lookupCell, hi] using h i

theorem writeSample_ok {c i : Nat} {v : Int} {s : State} (h : i < s.capacity) :
    writeSample c i v s = .next (s.setChannel c (insertCell i (BitVec.ofInt 64 v) (s.channel c))) := by
  simp [writeSample, h]

theorem writeSample_outside {c i : Nat} {v : Int} {s : State} (h : s.capacity ≤ i) :
    writeSample c i v s = .fault .noSuchCell := by simp [writeSample, Nat.not_lt.2 h]

/-- A write to a sample cell keeps the buffer's canonical form. -/
theorem writeSample_keeps_wf (c i : Nat) (v : Int) (s : State) (h : Memory.wf s = true) :
    Post (fun t => Memory.wf t = true) (writeSample c i v s) := by
  unfold writeSample
  split
  · next hi =>
    rw [post_next]
    simp only [Memory.wf, Bool.and_eq_true, State.setChannel_capacity] at h ⊢
    unfold State.setChannel State.channel
    by_cases hc : c = 0
    · simp only [hc, if_true]; exact ⟨channelWf_insertCell h.1 hi, h.2⟩
    · simp only [hc, if_false]; exact ⟨h.1, channelWf_insertCell h.2 hi⟩
  · exact post_fault _ _

@[simp] theorem memory_wf_clearSamples (s : State) : Memory.wf s.clearSamples = true := rfl

@[simp] theorem memory_wf_scramble (s : State) : Memory.wf s.scramble = true := rfl

@[simp] theorem memory_wf_construct (st : List Byte) (n : Nat) : Memory.wf (.construct st n) = true := rfl

theorem memory_wf_reset : Memory.wf State.reset = true := rfl

theorem inRange64_bounds {v : Int} (h : inRange64 v = true) : -9223372036854775808 ≤ v ∧ v ≤ 9223372036854775807 := by
  simp only [inRange64, Bool.and_eq_true, decide_eq_true_eq] at h
  exact ⟨by have := h.1; norm_num at this; exact this, by have := h.2; norm_num at this; exact this⟩

theorem inRange64_of_bounds {v : Int} (h₁ : -9223372036854775808 ≤ v) (h₂ : v ≤ 9223372036854775807) :
    inRange64 v = true := by
  simp only [inRange64, Bool.and_eq_true, decide_eq_true_eq]
  constructor <;> norm_num <;> omega

/-- A value in range is stored exactly. -/
theorem toInt_ofInt_of_inRange {v : Int} (h : inRange64 v = true) : (BitVec.ofInt 64 v).toInt = v := by
  obtain ⟨h₁, h₂⟩ := inRange64_bounds h
  rw [BitVec.toInt_ofInt]
  exact Int.bmod_eq_of_le (by norm_num; omega) (by norm_num; omega)

/-- A cell holds a value in range. -/
theorem inRange64_toInt (v : Cell) : inRange64 v.toInt = true := by
  have h₁ := BitVec.le_toInt v
  have h₂ := BitVec.toInt_lt (x := v)
  exact inRange64_of_bounds (by norm_num at h₁; omega) (by norm_num at h₂; omega)

theorem i64_of_inRange {v : Int} (h : inRange64 v = true) : i64 v = some v := by simp [i64, h]

theorem i64_eq_some {v u : Int} : i64 v = some u ↔ u = v ∧ inRange64 v = true := by
  unfold i64
  by_cases h : inRange64 v = true
  · rw [if_pos h, Option.some_inj]; exact ⟨fun e => ⟨e.symm, h⟩, fun e => e.1.symm⟩
  · rw [if_neg h]; exact ⟨fun e => (Option.some_ne_none _ e.symm).elim, fun e => (h e.2).elim⟩

/-- Reading back the cell just written. -/
theorem sample_write_same {c i : Nat} {v : Int} {s : State} (h : inRange64 v = true) :
    (s.setChannel c (insertCell i (BitVec.ofInt 64 v) (s.channel c))).sample c i = v := by
  simp [State.sample, State.cell, toInt_ofInt_of_inRange h]

/-- Every other cell of the channel reads as before. -/
theorem cell_write_other {c i k : Nat} (hk : k ≠ i) {v : Cell} {s : State} :
    (s.setChannel c (insertCell i v (s.channel c))).cell c k = s.cell c k := by
  simp [State.cell, lookupCell_insertCell_other i k hk]

/-- Every cell of the other channel reads as before. -/
theorem cell_write_other_channel {c d i k : Nat} (h : (c = 0) ≠ (d = 0)) {v : Cell} {s : State} :
    (s.setChannel c (insertCell i v (s.channel c))).cell d k = s.cell d k := by
  simp [State.cell, State.channel_setChannel_other s c d _ h]

end Sys2Proof.Machine
end

