-- ==== Sys2Proof/Laws/Cells.lean ====
section
/-! SUPPORT. Runs of writes to the sample buffer: what `Writes` says composes, and a single write is one of it. -/

namespace Sys2Proof.Machine

/-- No write at all. -/
theorem Writes.none (s : State) (ch lo : Nat) (x : Nat → Int) : Writes s s ch lo lo x :=
  fun _ _ _ => ⟨fun _ _ _ => by omega, fun _ => rfl⟩

/-- Two runs of writes in a row are one. -/
theorem Writes.append {s t u : State} {ch lo mid hi : Nat} {x : Nat → Int} (h₁ : Writes s t ch lo mid x)
    (h₂ : Writes t u ch mid hi x) (hl : lo ≤ mid) (hh : mid ≤ hi) : Writes s u ch lo hi x := by
  intro c i hc
  obtain ⟨a₁, b₁⟩ := h₁ c i hc
  obtain ⟨a₂, b₂⟩ := h₂ c i hc
  refine ⟨fun e hlo hhi => ?_, fun h => ?_⟩
  · by_cases hm : i < mid
    · rw [State.sample, b₂ (.inr (.inl hm))]; exact a₁ e hlo hm
    · exact a₂ e (by omega) hhi
  · rw [b₂ (by omega), b₁ (by omega)]

/-- Writing again over cells already written. -/
theorem Writes.overwrite {s t u : State} {ch lo mid hi : Nat} {x y : Nat → Int} (h₁ : Writes s t ch lo hi x)
    (h₂ : Writes t u ch mid hi y) (hl : lo ≤ mid) :
    Writes s u ch lo hi fun i => if i < mid then x i else y i := by
  intro c i hc
  obtain ⟨a₁, b₁⟩ := h₁ c i hc
  obtain ⟨a₂, b₂⟩ := h₂ c i hc
  refine ⟨fun e hlo hhi => ?_, fun h => ?_⟩
  · by_cases hm : i < mid
    · simp only [hm, if_true]; rw [State.sample, b₂ (.inr (.inl hm))]; exact a₁ e hlo hhi
    · simp only [hm, if_false]; exact a₂ e (by omega) hhi
  · rw [b₂ (by omega), b₁ h]

theorem Writes.congr {s t : State} {ch lo hi : Nat} {x y : Nat → Int} (h : Writes s t ch lo hi x)
    (e : ∀ i, lo ≤ i → i < hi → x i = y i) : Writes s t ch lo hi y :=
  fun c i hc => ⟨fun hce hlo hhi => by rw [(h c i hc).1 hce hlo hhi, e i hlo hhi], (h c i hc).2⟩

/-- The cells read do not depend on the registers. -/
theorem Writes.of_same_cells {s s' t t' : State} {ch lo hi : Nat} {x : Nat → Int} (h : Writes s t ch lo hi x)
    (hs : ∀ c i, s'.cell c i = s.cell c i) (ht : ∀ c i, t'.cell c i = t.cell c i) : Writes s' t' ch lo hi x :=
  fun c i hc => ⟨fun hce hlo hhi => by rw [State.sample, ht]; exact (h c i hc).1 hce hlo hhi,
    fun ho => by rw [ht, hs]; exact (h c i hc).2 ho⟩

/-- What a write to one cell below `N` does: the cell holds the value, every other cell reads as before, nothing else
changes. -/
theorem writeSample_spec {c i : Nat} {v : Int} {s : State} (hc : c ≤ 1) (hi : i < s.capacity)
    (hv : inRange64 v = true) :
    ∃ t, writeSample c i v s = .next t ∧ t = { s with sb0 := t.sb0, sb1 := t.sb1 } ∧
      Writes s t c i (i + 1) fun _ => v := by
  refine ⟨_, writeSample_ok hi, ?_, ?_⟩
  · unfold State.setChannel; split <;> rfl
  · intro d k hd
    refine ⟨fun e hlo hhi => ?_, fun ho => ?_⟩
    · subst e
      obtain rfl : k = i := by omega
      exact sample_write_same hv
    · by_cases e : d = c
      · subst e; exact cell_write_other (by omega)
      · exact cell_write_other_channel fun h => by
          have h' : c = 0 ↔ d = 0 := by rw [h]
          omega

/-- The same for a value that is range-checked first. -/
theorem writeI64_spec {c i : Nat} {v : Int} {s : State} (hc : c ≤ 1) (hi : i < s.capacity) (hv : inRange64 v = true) :
    ∃ t, writeI64 c i v s = .next t ∧ t = { s with sb0 := t.sb0, sb1 := t.sb1 } ∧
      Writes s t c i (i + 1) fun _ => v := by
  simp only [writeI64, i64_of_inRange hv]
  exact writeSample_spec hc hi hv

/-- A value outside 64 bits is A06. -/
theorem writeI64_overflow {c i : Nat} {v : Int} {s : State} (hv : inRange64 v = false) :
    writeI64 c i v s = raise (.plain .a06) s := by simp [writeI64, i64, hv]

end Sys2Proof.Machine
end

