-- ==== Sys2Proof/Laws/Bodies.lean ====
section
/-! SUPPORT. What the shared parts of the subframe bodies do when nothing stops them: runs of signed fields, one residual
stored, one accumulation, the restoration. -/

namespace Sys2Proof.Machine

/-! ## Ranges -/

theorem inRange64_iff (v : Int) : inRange64 v = true ↔ -2 ^ 63 ≤ v ∧ v ≤ 2 ^ 63 - 1 := by
  simp only [inRange64, Bool.and_eq_true, decide_eq_true_eq]

theorem inRange64_false_iff (v : Int) : inRange64 v = false ↔ v < -2 ^ 63 ∨ 2 ^ 63 - 1 < v := by
  rw [← Bool.not_eq_true, inRange64_iff]; omega

theorem pow_pred_le {n : Nat} (hn : n ≤ 64) : (2 : Int) ^ (n - 1) ≤ 9223372036854775808 := by
  have : (2 : Int) ^ (n - 1) ≤ 2 ^ 63 := by exact_mod_cast Nat.pow_le_pow_right (by decide) (by omega)
  norm_num at this
  exact this

/-- A field of up to 64 bits, read as a signed value, fits a cell. -/
theorem inRange64_sext {n v : Nat} (hn : n ≤ 64) (hv : v < 2 ^ n) : inRange64 (sext n v) = true := by
  by_cases h0 : n = 0
  · subst h0; rfl
  · have := sext_bounds (by omega) hv
    have := pow_pred_le hn
    exact inRange64_of_bounds (by omega) (by omega)

/-- A value that fits a field of up to 64 bits fits a cell. -/
theorem inRange64_of_fits {n : Nat} {v : Int} (hn : n ≤ 64) (h : fitsSigned n v = true) : inRange64 v = true := by
  unfold fitsSigned at h
  by_cases h0 : n = 0
  · subst h0
    have h1 : v = 0 := by simpa using h
    subst h1; rfl
  · rw [if_neg h0] at h
    have := pow_pred_le hn
    simp at h
    exact inRange64_of_bounds (by omega) (by omega)

/-! ## Runs of signed fields -/

/-- `count` signed fields read into the first cells of the channel, all their bits being there. -/
theorem readSamples_spec (count : Nat) (s : State) (hl : s.fault = false) (hc : s.work.ch ≤ 1)
    (hcap : count ≤ s.capacity) (hb : s.work.bpsEff ≤ 64) (h : s.bitpos + count * s.work.bpsEff ≤ s.bitLength) :
    ∃ t, readSamples count s = .next t ∧ t.fault = false ∧
      t = { s with bitpos := s.bitpos + count * s.work.bpsEff, sb0 := t.sb0, sb1 := t.sb1 } ∧
      Writes s t s.work.ch 0 count fun i => sext s.work.bpsEff (s.ahead (i * s.work.bpsEff) s.work.bpsEff) := by
  obtain ⟨t, ht, htl, h1, h2⟩ := forRange_total
    (I := fun i t => t = { s with bitpos := s.bitpos + i * s.work.bpsEff, sb0 := t.sb0, sb1 := t.sb1 } ∧
      Writes s t s.work.ch 0 i fun i => sext s.work.bpsEff (s.ahead (i * s.work.bpsEff) s.work.bpsEff))
    (f := fun i s => withInt s.work.bpsEff s fun v s => writeX i v s) count 0 s
    (by
      rintro i u _ hi hul ⟨he, hwr⟩
      have hch : u.work = s.work := by rw [he]
      have hcp : u.capacity = s.capacity := by rw [he]
      have hst : u.stream = s.stream := by rw [he]
      have hbp : u.bitpos = s.bitpos + i * s.work.bpsEff := by rw [he]
      have hle : (i + 1) * s.work.bpsEff ≤ count * s.work.bpsEff := Nat.mul_le_mul_right _ (by omega)
      have hm : (i + 1) * s.work.bpsEff = i * s.work.bpsEff + s.work.bpsEff := by ring
      have hbl : u.bitLength = s.bitLength := by simp [State.bitLength, hst]
      simp only [hch, withInt_ok _ (show u.bitpos + s.work.bpsEff ≤ u.bitLength by rw [hbl, hbp]; omega), hst, hbp]
      obtain ⟨t, ht, te, tw⟩ := writeSample_spec (c := s.work.ch) (i := i)
        (v := sext s.work.bpsEff (memRead s.stream (s.bitpos + i * s.work.bpsEff) s.work.bpsEff))
        (s := u.setBitpos (s.bitpos + i * s.work.bpsEff + s.work.bpsEff)) hc (by simp [hcp]; omega)
        (inRange64_sext hb (memRead_lt _ _ _))
      refine ⟨t, by simp only [writeX, State.setBitpos_work, hch]; exact ht, by rw [te]; exact hul, ?_, ?_⟩
      · rw [te, he, hm, ← Nat.add_assoc]; rfl
      · refine hwr.append ((tw.of_same_cells (s' := u) (fun _ _ => rfl) (fun _ _ => rfl)).congr fun k h1 h2 => ?_)
          (by omega) (by omega)
        obtain rfl : k = i := by omega
        rfl)
    hl ⟨by simp, Writes.none _ _ _ _⟩
  exact ⟨t, ht, htl, by simpa using h1, by simpa using h2⟩

/-! ## One residual -/

/-- A residual in range is stored in the next cell of the channel and the index moves on. -/
theorem storeResidual_spec (v : Int) (s : State) (hl : s.fault = false) (hc : s.work.ch ≤ 1)
    (hi : s.work.index < s.capacity) (hv : inRange64 v = true) :
    ∃ t, storeResidual v s = .next t ∧
      t = { s with work := { s.work with index := s.work.index + 1 }, sb0 := t.sb0, sb1 := t.sb1 } ∧
      Writes s t s.work.ch s.work.index (s.work.index + 1) fun _ => v := by
  obtain ⟨t, ht, te, tw⟩ := writeI64_spec (s := s) hc hi hv
  refine ⟨t.setWork { t.work with index := t.work.index + 1 }, ?_, ?_, ?_⟩
  · simp only [storeResidual, writeXI64, ht]
    rw [seq_live _ (by rw [te]; exact hl)]
  · rw [te]; rfl
  · exact tw.of_same_cells (fun _ _ => rfl) (fun _ _ => rfl)

/-! ## Restoration -/

/-- The accumulation over the samples before `i` is the prediction sum, if no product and no partial sum leaves 64
bits. -/
theorem accumulate_spec (s : State) (i : Nat) (y : Nat → Int) (c : List Int)
    (hx : ∀ j, j < c.length → s.x (i - 1 - j) = y (i - 1 - j))
    (hr : ∀ m, m < c.length →
      inRange64 (c.getD m 0 * y (i - 1 - m)) = true ∧ inRange64 (predictSum c y i (m + 1)) = true) :
    accumulate s i c 0 0 = some (predictSum c y i c.length) := by
  have key : ∀ (pre suf : List Int), pre ++ suf = c →
      accumulate s i suf pre.length (predictSum c y i pre.length) = some (predictSum c y i c.length) := by
    intro pre suf
    induction suf generalizing pre with
    | nil => intro h; rw [List.append_nil] at h; subst h; rfl
    | cons a suf ih =>
      intro h
      have hlt : pre.length < c.length := by rw [← h]; simp
      have ha : c.getD pre.length 0 = a := by rw [← h, List.getD_append_right _ _ _ _ (le_refl _)]; simp
      obtain ⟨h1, h2⟩ := hr _ hlt
      rw [ha] at h1
      have hs : predictSum c y i pre.length + a * y (i - 1 - pre.length) = predictSum c y i (pre.length + 1) := by
        rw [predictSum, predictSum, Finset.sum_range_succ, ha]
      rw [accumulate, hx _ hlt, i64_of_inRange h1]
      simp only
      rw [hs, i64_of_inRange h2]
      simp only
      have := ih (pre ++ [a]) (by rw [← h]; simp)
      simpa using this
  have := key [] c rfl
  simpa [predictSum] using this

/-- The restoration turns warmup and residuals in the buffer into the samples they predict. -/
theorem restore_spec (s : State) (c : List Int) (shift : Nat) (warmup residual : List Int) (y : Nat → Int)
    (hl : s.fault = false) (hc : s.work.ch ≤ 1) (hcap : s.fr.blocksize.toNat ≤ s.capacity)
    (ho : c.length ≤ s.fr.blocksize.toNat) (hp : Predicted c shift warmup residual s.fr.blocksize.toNat y)
    (hw : ∀ i, i < c.length → s.x i = warmup.getD i 0)
    (hr : ∀ i, c.length ≤ i → i < s.fr.blocksize.toNat → s.x i = residual.getD (i - c.length) 0) :
    ∃ t, restore c.length c shift s = .next t ∧ t.fault = false ∧ t = { s with sb0 := t.sb0, sb1 := t.sb1 } ∧
      Writes s t s.work.ch c.length s.fr.blocksize.toNat y := by
  obtain ⟨hp0, hp1⟩ := hp
  obtain ⟨t, ht, htl, h1, h2⟩ := forRange_total
    (I := fun i t => t = { s with sb0 := t.sb0, sb1 := t.sb1 } ∧ Writes s t s.work.ch c.length i y)
    (f := restoreAt c shift) (s.blocksize - c.length) c.length s
    (by
      rintro i u hlo hi hul ⟨he, hwr⟩
      have hi' : i < s.fr.blocksize.toNat := by simp [State.blocksize] at hi; omega
      have hwk : u.work = s.work := by rw [he]
      have hcp : u.capacity = s.capacity := by rw [he]
      have hux : ∀ k, k < i → u.x k = y k := by
        intro k hk
        rw [State.x, hwk]
        by_cases hkc : k < c.length
        · rw [State.sample, (hwr s.work.ch k hc).2 (by omega), hp0 k hkc, ← hw k hkc]; rfl
        · exact (hwr s.work.ch k hc).1 rfl (by omega) hk
      obtain ⟨e1, e2, e3⟩ := hp1 i hlo hi'
      have hacc : accumulate u i c 0 0 = some (predictSum c y i c.length) :=
        accumulate_spec u i y c (fun j hj => hux _ (by omega)) e3
      have hui : u.x i = residual.getD (i - c.length) 0 := by
        rw [State.x, hwk, State.sample, (hwr s.work.ch i hc).2 (by omega), ← hr i hlo hi']; rfl
      simp only [restoreAt, hacc, hui, ← e1, writeXI64, hwk]
      obtain ⟨t, ht, te, tw⟩ := writeI64_spec (c := s.work.ch) (i := i) (s := u) hc (by rw [hcp]; omega) e2
      refine ⟨t, ht, by rw [te]; exact hul, by rw [te, he], hwr.append (tw.congr fun k _ _ => ?_) (by omega) (by omega)⟩
      obtain rfl : k = i := by omega
      rfl)
    hl ⟨rfl, Writes.none _ _ _ _⟩
  refine ⟨t, ht, htl, h1, ?_⟩
  have : c.length + (s.blocksize - c.length) = s.fr.blocksize.toNat := by simp [State.blocksize]; omega
  rwa [this] at h2

end Sys2Proof.Machine
end

