-- ==== Sys2Proof/Laws/PerInstr.lean ====
section
/-! SUPPORT. Statements about every instruction as syntax, one lemma per constructor. -/

namespace Sys2Proof.Laws.EncodedWidth

/-- How many bits the layouts of R91 to R109 and R122 give an instruction, from its operands. -/
def bits : Instr → Nat
  | .decodeMarker => 2
  | .decodeMetadata => 2
  | .decodeAudio => 2
  | .command3Unused => 2
  | .getUint _ => 0
  | .getInt _ => 0
  | .getByte => 0
  | .align => 0
  | .clz8 _ => 0
  | .eos => 0
  | .getUnary => 0
  | .skipBytes _ => 0
  | .marker => 32
  | .metaStreaminfo _ _ => 32
  | .metaSkip6 _ _ _ => 32
  | .metaSkip5 _ _ _ => 32
  | .metaSkip4 _ _ _ => 32
  | .metaSkip3 _ _ _ => 32
  | .metaSkip2 _ _ _ => 32
  | .metaSkip1 _ _ _ => 32
  | .metaSkip0 _ _ => 32
  | .streaminfoBody _ _ _ _ _ _ _ _ _ => 272
  | .skippedBody length => 8 * length.toNat
  | .framePreamble _ _ _ _ _ => 32
  | .bsCode0 => 4
  | .bsCode1 => 4
  | .bsCode2 => 4
  | .bsCode3 => 4
  | .bsCode4 => 4
  | .bsCode5 => 4
  | .bsCode6 => 4
  | .bsCode7 => 4
  | .bsCode8 => 4
  | .bsCode9 => 4
  | .bsCode10 => 4
  | .bsCode11 => 4
  | .bsCode12 => 4
  | .bsCode13 => 4
  | .bsCode14 => 4
  | .bsCode15 => 4
  | .srCode0 => 4
  | .srCode1 => 4
  | .srCode2 => 4
  | .srCode3 => 4
  | .srCode4 => 4
  | .srCode5 => 4
  | .srCode6 => 4
  | .srCode7 => 4
  | .srCode8 => 4
  | .srCode9 => 4
  | .srCode10 => 4
  | .srCode11 => 4
  | .srCode12 => 4
  | .srCode13 => 4
  | .srCode14 => 4
  | .srCode15 => 4
  | .caCode0 => 4
  | .caCode1 => 4
  | .caCode2 => 4
  | .caCode3 => 4
  | .caCode4 => 4
  | .caCode5 => 4
  | .caCode6 => 4
  | .caCode7 => 4
  | .caCode8 => 4
  | .caCode9 => 4
  | .caCode10 => 4
  | .caCode11 => 4
  | .caCode12 => 4
  | .caCode13 => 4
  | .caCode14 => 4
  | .caCode15 => 4
  | .ssCode0 => 3
  | .ssCode1 => 3
  | .ssCode2 => 3
  | .ssCode3 => 3
  | .ssCode4 => 3
  | .ssCode5 => 3
  | .ssCode6 => 3
  | .ssCode7 => 3
  | .codedNumberK000 _ => 8
  | .codedNumberK080 _ => 8
  | .codedNumberK1C0 _ _ => 16
  | .codedNumberK2E0 _ _ => 24
  | .codedNumberK3F0 _ _ => 32
  | .codedNumberK4F8 _ _ => 40
  | .codedNumberK5FC _ _ => 48
  | .codedNumberK6FE _ => 56
  | .codedNumberK7FF _ => 64
  | .blocksizeExt8 _ => 8
  | .blocksizeExt16 _ => 16
  | .rateExt8Khz _ => 8
  | .rateExt16Hz _ => 16
  | .rateExt16Dhz _ => 16
  | .crc8 _ => 8
  | .subframeConstant _ _ => 8
  | .subframeVerbatim _ _ => 8
  | .subframeReserved2To3 _ _ => 7
  | .subframeReserved4To7 _ _ => 7
  | .subframeFixed0 _ _ => 8
  | .subframeFixed1 _ _ => 8
  | .subframeFixed2 _ _ => 8
  | .subframeFixed3 _ _ => 8
  | .subframeFixed4 _ _ => 8
  | .subframeReserved13 _ => 7
  | .subframeReserved14To15 _ _ => 7
  | .subframeReserved16To31 _ _ => 7
  | .subframeLpc _ _ _ => 8
  | .wastedUnary w => w + 1
  | .constantBody width _ => width
  | .verbatimBody => 0
  | .fixedBody _ => 0
  | .lpcBody _ => 0
  | .residualMethod0 _ => 6
  | .residualMethod1 _ => 6
  | .residualMethod2 => 2
  | .residualMethod3 => 2
  | .param4RiceK0 => 4
  | .param4RiceK1 => 4
  | .param4RiceK2 => 4
  | .param4RiceK3 => 4
  | .param4RiceK4 => 4
  | .param4RiceK5 => 4
  | .param4RiceK6 => 4
  | .param4RiceK7 => 4
  | .param4RiceK8 => 4
  | .param4RiceK9 => 4
  | .param4RiceK10 => 4
  | .param4RiceK11 => 4
  | .param4RiceK12 => 4
  | .param4RiceK13 => 4
  | .param4RiceK14 => 4
  | .param4Escape => 4
  | .param5RiceK0 => 5
  | .param5RiceK1 => 5
  | .param5RiceK2 => 5
  | .param5RiceK3 => 5
  | .param5RiceK4 => 5
  | .param5RiceK5 => 5
  | .param5RiceK6 => 5
  | .param5RiceK7 => 5
  | .param5RiceK8 => 5
  | .param5RiceK9 => 5
  | .param5RiceK10 => 5
  | .param5RiceK11 => 5
  | .param5RiceK12 => 5
  | .param5RiceK13 => 5
  | .param5RiceK14 => 5
  | .param5RiceK15 => 5
  | .param5RiceK16 => 5
  | .param5RiceK17 => 5
  | .param5RiceK18 => 5
  | .param5RiceK19 => 5
  | .param5RiceK20 => 5
  | .param5RiceK21 => 5
  | .param5RiceK22 => 5
  | .param5RiceK23 => 5
  | .param5RiceK24 => 5
  | .param5RiceK25 => 5
  | .param5RiceK26 => 5
  | .param5RiceK27 => 5
  | .param5RiceK28 => 5
  | .param5RiceK29 => 5
  | .param5RiceK30 => 5
  | .param5Escape => 5
  | .escapeWidth _ => 5
  | .rawResidual width _ => width
  | .riceWord k q _ => q + 1 + k
  | .padding width _ => width
  | .crc16 _ => 16

/-- The encoder writes exactly the bits the layout gives the instruction (R258 for the residual). -/
def Statement (i : Instr) : Prop := (encode i).length = bits i

theorem decodeMarker : Statement .decodeMarker := rfl
theorem decodeMetadata : Statement .decodeMetadata := rfl
theorem decodeAudio : Statement .decodeAudio := rfl
theorem command3Unused : Statement .command3Unused := rfl
theorem getUint (n : Nat) : Statement (.getUint n) := rfl
theorem getInt (n : Nat) : Statement (.getInt n) := rfl
theorem getByte : Statement .getByte := rfl
theorem align : Statement .align := rfl
theorem clz8 (b : Byte) : Statement (.clz8 b) := rfl
theorem eos : Statement .eos := rfl
theorem getUnary : Statement .getUnary := rfl
theorem skipBytes (n : Nat) : Statement (.skipBytes n) := rfl
theorem marker : Statement .marker := rfl
theorem metaStreaminfo (last : Bool) (length : BitVec 24) : Statement (.metaStreaminfo last length) := rfl
theorem metaSkip6 (last : Bool) (low : BitVec 6) (length : BitVec 24) : Statement (.metaSkip6 last low length) := rfl
theorem metaSkip5 (last : Bool) (low : BitVec 5) (length : BitVec 24) : Statement (.metaSkip5 last low length) := rfl
theorem metaSkip4 (last : Bool) (low : BitVec 4) (length : BitVec 24) : Statement (.metaSkip4 last low length) := rfl
theorem metaSkip3 (last : Bool) (low : BitVec 3) (length : BitVec 24) : Statement (.metaSkip3 last low length) := rfl
theorem metaSkip2 (last : Bool) (low : BitVec 2) (length : BitVec 24) : Statement (.metaSkip2 last low length) := rfl
theorem metaSkip1 (last : Bool) (low : BitVec 1) (length : BitVec 24) : Statement (.metaSkip1 last low length) := rfl
theorem metaSkip0 (last : Bool) (length : BitVec 24) : Statement (.metaSkip0 last length) := rfl
theorem streaminfoBody (minBlock : BitVec 16) (maxBlock : BitVec 16) (minFrame : BitVec 24) (maxFrame : BitVec 24) (rate : BitVec 20) (channelsMinus1 : BitVec 3) (bpsMinus1 : BitVec 5) (total : BitVec 36) (md5 : BitVec 128) : Statement (.streaminfoBody minBlock maxBlock minFrame maxFrame rate channelsMinus1 bpsMinus1 total md5) := by
  show (bitsOf 16 minBlock.toNat ++ bitsOf 16 maxBlock.toNat ++ bitsOf 24 minFrame.toNat ++ bitsOf 24 maxFrame.toNat ++
    bitsOf 20 rate.toNat ++ bitsOf 3 channelsMinus1.toNat ++ bitsOf 5 bpsMinus1.toNat ++ bitsOf 36 total.toNat ++
    bitsOf 128 md5.toNat).length = 272
  simp only [List.length_append, length_bitsOf]
theorem skippedBody (length : BitVec 24) : Statement (.skippedBody length) := List.length_replicate
theorem framePreamble (strategy : Bool) (bs : BitVec 4) (sr : BitVec 4) (ca : BitVec 4) (ss : BitVec 3) : Statement (.framePreamble strategy bs sr ca ss) := rfl
theorem bsCode0 : Statement .bsCode0 := rfl
theorem bsCode1 : Statement .bsCode1 := rfl
theorem bsCode2 : Statement .bsCode2 := rfl
theorem bsCode3 : Statement .bsCode3 := rfl
theorem bsCode4 : Statement .bsCode4 := rfl
theorem bsCode5 : Statement .bsCode5 := rfl
theorem bsCode6 : Statement .bsCode6 := rfl
theorem bsCode7 : Statement .bsCode7 := rfl
theorem bsCode8 : Statement .bsCode8 := rfl
theorem bsCode9 : Statement .bsCode9 := rfl
theorem bsCode10 : Statement .bsCode10 := rfl
theorem bsCode11 : Statement .bsCode11 := rfl
theorem bsCode12 : Statement .bsCode12 := rfl
theorem bsCode13 : Statement .bsCode13 := rfl
theorem bsCode14 : Statement .bsCode14 := rfl
theorem bsCode15 : Statement .bsCode15 := rfl
theorem srCode0 : Statement .srCode0 := rfl
theorem srCode1 : Statement .srCode1 := rfl
theorem srCode2 : Statement .srCode2 := rfl
theorem srCode3 : Statement .srCode3 := rfl
theorem srCode4 : Statement .srCode4 := rfl
theorem srCode5 : Statement .srCode5 := rfl
theorem srCode6 : Statement .srCode6 := rfl
theorem srCode7 : Statement .srCode7 := rfl
theorem srCode8 : Statement .srCode8 := rfl
theorem srCode9 : Statement .srCode9 := rfl
theorem srCode10 : Statement .srCode10 := rfl
theorem srCode11 : Statement .srCode11 := rfl
theorem srCode12 : Statement .srCode12 := rfl
theorem srCode13 : Statement .srCode13 := rfl
theorem srCode14 : Statement .srCode14 := rfl
theorem srCode15 : Statement .srCode15 := rfl
theorem caCode0 : Statement .caCode0 := rfl
theorem caCode1 : Statement .caCode1 := rfl
theorem caCode2 : Statement .caCode2 := rfl
theorem caCode3 : Statement .caCode3 := rfl
theorem caCode4 : Statement .caCode4 := rfl
theorem caCode5 : Statement .caCode5 := rfl
theorem caCode6 : Statement .caCode6 := rfl
theorem caCode7 : Statement .caCode7 := rfl
theorem caCode8 : Statement .caCode8 := rfl
theorem caCode9 : Statement .caCode9 := rfl
theorem caCode10 : Statement .caCode10 := rfl
theorem caCode11 : Statement .caCode11 := rfl
theorem caCode12 : Statement .caCode12 := rfl
theorem caCode13 : Statement .caCode13 := rfl
theorem caCode14 : Statement .caCode14 := rfl
theorem caCode15 : Statement .caCode15 := rfl
theorem ssCode0 : Statement .ssCode0 := rfl
theorem ssCode1 : Statement .ssCode1 := rfl
theorem ssCode2 : Statement .ssCode2 := rfl
theorem ssCode3 : Statement .ssCode3 := rfl
theorem ssCode4 : Statement .ssCode4 := rfl
theorem ssCode5 : Statement .ssCode5 := rfl
theorem ssCode6 : Statement .ssCode6 := rfl
theorem ssCode7 : Statement .ssCode7 := rfl
theorem codedNumberK000 (x : BitVec 7) : Statement (.codedNumberK000 x) := rfl
theorem codedNumberK080 (x : BitVec 6) : Statement (.codedNumberK080 x) := rfl
theorem codedNumberK1C0 (x : BitVec 5) (following : BitVec 8) : Statement (.codedNumberK1C0 x following) := rfl
theorem codedNumberK2E0 (x : BitVec 4) (following : BitVec 16) : Statement (.codedNumberK2E0 x following) := rfl
theorem codedNumberK3F0 (x : BitVec 3) (following : BitVec 24) : Statement (.codedNumberK3F0 x following) := rfl
theorem codedNumberK4F8 (x : BitVec 2) (following : BitVec 32) : Statement (.codedNumberK4F8 x following) := rfl
theorem codedNumberK5FC (x : BitVec 1) (following : BitVec 40) : Statement (.codedNumberK5FC x following) := rfl
theorem codedNumberK6FE (following : BitVec 48) : Statement (.codedNumberK6FE following) := rfl
theorem codedNumberK7FF (following : BitVec 56) : Statement (.codedNumberK7FF following) := rfl
theorem blocksizeExt8 (v : BitVec 8) : Statement (.blocksizeExt8 v) := rfl
theorem blocksizeExt16 (v : BitVec 16) : Statement (.blocksizeExt16 v) := rfl
theorem rateExt8Khz (v : BitVec 8) : Statement (.rateExt8Khz v) := rfl
theorem rateExt16Hz (v : BitVec 16) : Statement (.rateExt16Hz v) := rfl
theorem rateExt16Dhz (v : BitVec 16) : Statement (.rateExt16Dhz v) := rfl
theorem crc8 (v : BitVec 8) : Statement (.crc8 v) := rfl
theorem subframeConstant (zero : Bool) (wasted : Bool) : Statement (.subframeConstant zero wasted) := rfl
theorem subframeVerbatim (zero : Bool) (wasted : Bool) : Statement (.subframeVerbatim zero wasted) := rfl
theorem subframeReserved2To3 (zero : Bool) (x : BitVec 1) : Statement (.subframeReserved2To3 zero x) := rfl
theorem subframeReserved4To7 (zero : Bool) (x : BitVec 2) : Statement (.subframeReserved4To7 zero x) := rfl
theorem subframeFixed0 (zero : Bool) (wasted : Bool) : Statement (.subframeFixed0 zero wasted) := rfl
theorem subframeFixed1 (zero : Bool) (wasted : Bool) : Statement (.subframeFixed1 zero wasted) := rfl
theorem subframeFixed2 (zero : Bool) (wasted : Bool) : Statement (.subframeFixed2 zero wasted) := rfl
theorem subframeFixed3 (zero : Bool) (wasted : Bool) : Statement (.subframeFixed3 zero wasted) := rfl
theorem subframeFixed4 (zero : Bool) (wasted : Bool) : Statement (.subframeFixed4 zero wasted) := rfl
theorem subframeReserved13 (zero : Bool) : Statement (.subframeReserved13 zero) := rfl
theorem subframeReserved14To15 (zero : Bool) (x : BitVec 1) : Statement (.subframeReserved14To15 zero x) := rfl
theorem subframeReserved16To31 (zero : Bool) (x : BitVec 4) : Statement (.subframeReserved16To31 zero x) := rfl
theorem subframeLpc (zero : Bool) (orderMinus1 : BitVec 5) (wasted : Bool) : Statement (.subframeLpc zero orderMinus1 wasted) := rfl
theorem wastedUnary (w : Nat) : Statement (.wastedUnary w) := length_unaryBits w
theorem constantBody (width : Nat) (v : Int) : Statement (.constantBody width v) := length_signedBits width v
theorem verbatimBody : Statement .verbatimBody := rfl
theorem fixedBody (order : Fin 5) : Statement (.fixedBody order) := rfl
theorem lpcBody (orderMinus1 : BitVec 5) : Statement (.lpcBody orderMinus1) := rfl
theorem residualMethod0 (po : BitVec 4) : Statement (.residualMethod0 po) := rfl
theorem residualMethod1 (po : BitVec 4) : Statement (.residualMethod1 po) := rfl
theorem residualMethod2 : Statement .residualMethod2 := rfl
theorem residualMethod3 : Statement .residualMethod3 := rfl
theorem param4RiceK0 : Statement .param4RiceK0 := rfl
theorem param4RiceK1 : Statement .param4RiceK1 := rfl
theorem param4RiceK2 : Statement .param4RiceK2 := rfl
theorem param4RiceK3 : Statement .param4RiceK3 := rfl
theorem param4RiceK4 : Statement .param4RiceK4 := rfl
theorem param4RiceK5 : Statement .param4RiceK5 := rfl
theorem param4RiceK6 : Statement .param4RiceK6 := rfl
theorem param4RiceK7 : Statement .param4RiceK7 := rfl
theorem param4RiceK8 : Statement .param4RiceK8 := rfl
theorem param4RiceK9 : Statement .param4RiceK9 := rfl
theorem param4RiceK10 : Statement .param4RiceK10 := rfl
theorem param4RiceK11 : Statement .param4RiceK11 := rfl
theorem param4RiceK12 : Statement .param4RiceK12 := rfl
theorem param4RiceK13 : Statement .param4RiceK13 := rfl
theorem param4RiceK14 : Statement .param4RiceK14 := rfl
theorem param4Escape : Statement .param4Escape := rfl
theorem param5RiceK0 : Statement .param5RiceK0 := rfl
theorem param5RiceK1 : Statement .param5RiceK1 := rfl
theorem param5RiceK2 : Statement .param5RiceK2 := rfl
theorem param5RiceK3 : Statement .param5RiceK3 := rfl
theorem param5RiceK4 : Statement .param5RiceK4 := rfl
theorem param5RiceK5 : Statement .param5RiceK5 := rfl
theorem param5RiceK6 : Statement .param5RiceK6 := rfl
theorem param5RiceK7 : Statement .param5RiceK7 := rfl
theorem param5RiceK8 : Statement .param5RiceK8 := rfl
theorem param5RiceK9 : Statement .param5RiceK9 := rfl
theorem param5RiceK10 : Statement .param5RiceK10 := rfl
theorem param5RiceK11 : Statement .param5RiceK11 := rfl
theorem param5RiceK12 : Statement .param5RiceK12 := rfl
theorem param5RiceK13 : Statement .param5RiceK13 := rfl
theorem param5RiceK14 : Statement .param5RiceK14 := rfl
theorem param5RiceK15 : Statement .param5RiceK15 := rfl
theorem param5RiceK16 : Statement .param5RiceK16 := rfl
theorem param5RiceK17 : Statement .param5RiceK17 := rfl
theorem param5RiceK18 : Statement .param5RiceK18 := rfl
theorem param5RiceK19 : Statement .param5RiceK19 := rfl
theorem param5RiceK20 : Statement .param5RiceK20 := rfl
theorem param5RiceK21 : Statement .param5RiceK21 := rfl
theorem param5RiceK22 : Statement .param5RiceK22 := rfl
theorem param5RiceK23 : Statement .param5RiceK23 := rfl
theorem param5RiceK24 : Statement .param5RiceK24 := rfl
theorem param5RiceK25 : Statement .param5RiceK25 := rfl
theorem param5RiceK26 : Statement .param5RiceK26 := rfl
theorem param5RiceK27 : Statement .param5RiceK27 := rfl
theorem param5RiceK28 : Statement .param5RiceK28 := rfl
theorem param5RiceK29 : Statement .param5RiceK29 := rfl
theorem param5RiceK30 : Statement .param5RiceK30 := rfl
theorem param5Escape : Statement .param5Escape := rfl
theorem escapeWidth (n : BitVec 5) : Statement (.escapeWidth n) := rfl
theorem rawResidual (width : Nat) (v : Int) : Statement (.rawResidual width v) := length_signedBits width v
theorem riceWord (k : Nat) (q : Nat) (r : Nat) : Statement (.riceWord k q r) := by
  show (unaryBits q ++ bitsOf k r).length = q + 1 + k
  rw [List.length_append, length_unaryBits, length_bitsOf]
theorem padding (width : Nat) (v : Nat) : Statement (.padding width v) := length_bitsOf width v
theorem crc16 (v : BitVec 16) : Statement (.crc16 v) := rfl

end Sys2Proof.Laws.EncodedWidth
end

