-- ==== Sys2Proof/Tests/Slice0.lean ====
section
/-! SUPPORT. The model's own tests: ill-formed terms that `WellFormed` refuses, words written out from the layouts of
`30_encoding.md`, single steps of the vectors of `95_test_vectors.md` (each named by its id), and for every statement
with hypotheses a witness that meets them, clause by clause. -/

namespace Sys2Proof.Tests

set_option Elab.async false

open Sys2Proof Sys2Proof.Machine

/-! ## Small states -/

/-- A block right after construction on `bytes`, moved to bit `pos`. -/
def holding (bytes : List Byte) (pos : Nat) : State := { State.construct bytes 8192 with bitpos := pos }

/-- The same in the decoder state `d`. -/
def inState (d : DecState) (bytes : List Byte) : State := { holding bytes 0 with decState := d }

/-- `HAS_METADATA` after the STREAMINFO of the vectors' prefix `H1`; the bytes are those behind it. -/
def afterH1 (bytes : List Byte) : State :=
  { inState .hasMetadata bytes with siValid := true, si := ⟨4, 4, 0, 0, 44100, 1, 16, 4⟩ }

/-- The answer is a next state with the property `p`. -/
def nextWith (o : Out) (p : State → Bool) : Bool :=
  match o with
  | .next t => p t
  | .fault _ => false
  | .refused _ => false

theorem nextWith_exists {o : Out} {p : State → Bool} (h : nextWith o p = true) : ∃ t, o = .next t ∧ p t = true := by
  cases o with
  | next t => exact ⟨t, rfl, h⟩
  | fault _ => cases h
  | refused _ => cases h

/-- One step that serves the command with the number `n`. -/
def oneCommand (n : BitVec 2) (s : State) : Out := step (s.setPort [.command n])

/-- The answer is a latched fault with this cause and info, `STATE` as it was. -/
def faultIs (o : Out) (d : DecState) (c : Cause) (got expected : Option InfoValue) : Bool :=
  nextWith o fun t => t.fault && t.faultKind = causeKind c && t.faultCause = c && t.faultInfo = ⟨got, expected⟩ &&
    t.decState = d && !t.frValidRead

/-- The first `n` samples of channel `c`. -/
def samples (c n : Nat) (t : State) : List Int := (List.range n).map (t.sample c)

/-- The frame is decoded: these samples in channel 0 and channel 1, `BITPOS` at the end of the bytes. -/
def decodes (bytes : List Byte) (ch0 ch1 : List Int) : Bool :=
  nextWith (oneCommand 2 (afterH1 bytes)) fun t =>
    !t.fault && t.frValid && t.bitpos = 8 * bytes.length && t.decState = .hasMetadata &&
      t.fr.blocksize.toNat = ch0.length && samples 0 ch0.length t = ch0 && samples 1 ch1.length t = ch1

/-- `decode_audio` faults. -/
def audioFaults (bytes : List Byte) (c : Cause) (got expected : Option InfoValue) : Bool :=
  faultIs (oneCommand 2 (afterH1 bytes)) .hasMetadata c got expected

/-- The element that stands at the start of `bytes`. -/
def reads (k : Kind) (bytes : List Byte) (i : Instr) : Bool :=
  match decodeElem .bare k ⟨bytes, 0⟩ with
  | .ok j => j = i
  | .error _ => false

/-- The same in a context. -/
def readsIn (c : ElemCtx) (k : Kind) (bytes : List Byte) (i : Instr) : Bool :=
  match decodeElem c k ⟨bytes, 0⟩ with
  | .ok j => j = i
  | .error _ => false

/-! ## WellFormed refuses -/

theorem test_wf_get_uint_too_wide : (Instr.getUint 65).wellFormed = false := by decide
theorem test_wf_get_int_too_wide : (Instr.getInt 65).wellFormed = false := by decide
theorem test_wf_constant_no_width : (Instr.constantBody 0 0).wellFormed = false := by decide
theorem test_wf_constant_too_wide : (Instr.constantBody 65 0).wellFormed = false := by decide
theorem test_wf_constant_out_of_range : (Instr.constantBody 8 128).wellFormed = false := by decide
theorem test_wf_constant_below_range : (Instr.constantBody 8 (-129)).wellFormed = false := by decide
theorem test_wf_raw_too_wide : (Instr.rawResidual 32 0).wellFormed = false := by decide
theorem test_wf_raw_out_of_range : (Instr.rawResidual 3 4).wellFormed = false := by decide
theorem test_wf_raw_no_bits_is_zero : (Instr.rawResidual 0 1).wellFormed = false := by decide
theorem test_wf_rice_parameter : (Instr.riceWord 31 0 0).wellFormed = false := by decide
theorem test_wf_rice_remainder : (Instr.riceWord 3 0 8).wellFormed = false := by decide
theorem test_wf_padding_width : (Instr.padding 8 0).wellFormed = false := by decide
theorem test_wf_padding_value : (Instr.padding 3 8).wellFormed = false := by decide

/-! ## Words written out from the layouts -/

/-- R122. -/
theorem test_words_commands : decodeCommand 0b00 = .decodeMarker ∧ decodeCommand 0b01 = .decodeMetadata ∧
    decodeCommand 0b10 = .decodeAudio ∧ decodeCommand 0b11 = .command3Unused := by decide

/-- A bit-source call has no stream encoding (R130 to R137): it stands on the port under its own name. -/
theorem test_words_bit_source : [Primitive.getUint 3, .getInt 3, .getByte, .align, .clz8 0x3D, .eos, .getUnary,
    .skipBytes 2].map Primitive.instr =
    [.getUint 3, .getInt 3, .getByte, .align, .clz8 0x3D, .eos, .getUnary, .skipBytes 2] := by decide

/-- R91: "fLaC". -/
theorem test_words_marker : reads .marker [0b01100110, 0b01001100, 0b01100001, 0b01000011] .marker = true := by decide

/-- R92, R118: last, 7 bits of type, 24 bits of length. -/
theorem test_words_metadata_headers : ∀ e ∈
    [(0b10000000, Instr.metaStreaminfo true 0x000022), (0b00000001, .metaSkip0 false 0x000022),
     (0b10000011, .metaSkip1 true 1 0x000022), (0b00000110, .metaSkip2 false 2 0x000022),
     (0b10001101, .metaSkip3 true 5 0x000022), (0b00010001, .metaSkip4 false 1 0x000022),
     (0b10110000, .metaSkip5 true 16 0x000022), (0b11111111, .metaSkip6 true 63 0x000022)],
    reads .metaHdr [e.1, 0x00, 0x00, 0x22] e.2 = true := by decide

/-- R93: the body of `H1` with two channels and a non-zero MD5. -/
theorem test_words_streaminfo_body :
    reads .streaminfoBody ([0x00, 0x10, 0x20, 0x00, 0x00, 0x00, 0x0E, 0x00, 0x10, 0x00, 0x0A, 0xC4] ++
        [0x42, 0xF1, 0x00, 0x00, 0x00, 0x04] ++ List.replicate 15 0x00 ++ [0x99])
      (.streaminfoBody 16 8192 14 4096 44100 1 15 0x100000004 0x99) = true := by decide +kernel

/-- R94. -/
theorem test_words_skipped_body : readsIn { ElemCtx.bare with metaLength := 3 } .skippedBody [0xAA, 0xBB, 0xCC]
    (.skippedBody 3) = true := by decide

/-- R95: sync `11111111111110`, reserved, strategy, the four codes, reserved. -/
theorem test_words_preamble :
    reads .framePreamble [0b11111111, 0b11111001, 0b01101010, 0b10100010] (.framePreamble true 6 10 10 1) = true := by
  decide

/-- R112. -/
theorem test_words_blocksize_codes : ∀ e ∈
    [(0x00, Instr.bsCode0), (0x10, .bsCode1), (0x20, .bsCode2), (0x30, .bsCode3), (0x40, .bsCode4), (0x50, .bsCode5),
     (0x60, .bsCode6), (0x70, .bsCode7), (0x80, .bsCode8), (0x90, .bsCode9), (0xA0, .bsCode10), (0xB0, .bsCode11),
     (0xC0, .bsCode12), (0xD0, .bsCode13), (0xE0, .bsCode14), (0xF0, .bsCode15)],
    reads .bsCode [e.1] e.2 = true := by decide

/-- R113. -/
theorem test_words_rate_codes : ∀ e ∈
    [(0x00, Instr.srCode0), (0x10, .srCode1), (0x20, .srCode2), (0x30, .srCode3), (0x40, .srCode4), (0x50, .srCode5),
     (0x60, .srCode6), (0x70, .srCode7), (0x80, .srCode8), (0x90, .srCode9), (0xA0, .srCode10), (0xB0, .srCode11),
     (0xC0, .srCode12), (0xD0, .srCode13), (0xE0, .srCode14), (0xF0, .srCode15)],
    reads .srCode [e.1] e.2 = true := by decide

/-- R115. -/
theorem test_words_channel_codes : ∀ e ∈
    [(0x00, Instr.caCode0), (0x10, .caCode1), (0x20, .caCode2), (0x30, .caCode3), (0x40, .caCode4), (0x50, .caCode5),
     (0x60, .caCode6), (0x70, .caCode7), (0x80, .caCode8), (0x90, .caCode9), (0xA0, .caCode10), (0xB0, .caCode11),
     (0xC0, .caCode12), (0xD0, .caCode13), (0xE0, .caCode14), (0xF0, .caCode15)],
    reads .caCode [e.1] e.2 = true := by decide

/-- R114. -/
theorem test_words_sample_size_codes : ∀ e ∈
    [(0b00000000, Instr.ssCode0), (0b00100000, .ssCode1), (0b01000000, .ssCode2), (0b01100000, .ssCode3),
     (0b10000000, .ssCode4), (0b10100000, .ssCode5), (0b11000000, .ssCode6), (0b11100000, .ssCode7)],
    reads .ssCode [e.1] e.2 = true := by decide

/-- R96: the first byte's leading ones, then the following bytes. -/
theorem test_words_coded_numbers :
    reads .codedNumber [0b01111111] (.codedNumberK000 0x7F) = true ∧
    reads .codedNumber [0b10000001] (.codedNumberK080 1) = true ∧
    reads .codedNumber [0b11000010, 0x80] (.codedNumberK1C0 2 0x80) = true ∧
    reads .codedNumber [0b11100001, 0x80, 0x81] (.codedNumberK2E0 1 0x8081) = true ∧
    reads .codedNumber [0b11110001, 0x80, 0x81, 0x82] (.codedNumberK3F0 1 0x808182) = true ∧
    reads .codedNumber [0b11111001, 0x80, 0x81, 0x82, 0x83] (.codedNumberK4F8 1 0x80818283) = true ∧
    reads .codedNumber [0b11111101, 0x80, 0x81, 0x82, 0x83, 0x84] (.codedNumberK5FC 1 0x8081828384) = true ∧
    reads .codedNumber [0b11111110, 0x80, 0x81, 0x82, 0x83, 0x84, 0x85] (.codedNumberK6FE 0x808182838485) = true ∧
    reads .codedNumber [0b11111111, 0x80, 0x81, 0x82, 0x83, 0x84, 0x85, 0x86]
      (.codedNumberK7FF 0x80818283848586) = true := by decide +kernel

/-- R97, R98, R99: extensions and CRC-8, most significant bit first. -/
theorem test_words_header_fields :
    reads .blocksizeExt8 [0x2C] (.blocksizeExt8 0x2C) = true ∧
    reads .blocksizeExt16 [0x20, 0x01] (.blocksizeExt16 0x2001) = true ∧
    reads .rateExt8Khz [0x2C] (.rateExt8Khz 44) = true ∧
    reads .rateExt16Hz [0xAC, 0x44] (.rateExt16Hz 44100) = true ∧
    reads .rateExt16Dhz [0x11, 0x3A] (.rateExt16Dhz 4410) = true ∧
    reads .crc8 [0x5A] (.crc8 0x5A) = true := by decide

/-- R100, R116: the ignored bit, 6 bits of type, the wasted-bits flag; a reserved type ends after 7 bits. -/
theorem test_words_subframe_headers : ∀ e ∈
    [(0b00000000, Instr.subframeConstant false false), (0b10000011, .subframeVerbatim true true),
     (0b00000110, .subframeReserved2To3 false 1), (0b10001110, .subframeReserved4To7 true 3),
     (0b00010001, .subframeFixed0 false true), (0b00010010, .subframeFixed1 false false),
     (0b10010100, .subframeFixed2 true false), (0b00010110, .subframeFixed3 false false),
     (0b00011000, .subframeFixed4 false false), (0b00011010, .subframeReserved13 false),
     (0b00011110, .subframeReserved14To15 false 1), (0b00111110, .subframeReserved16To31 false 15),
     (0b01000011, .subframeLpc false 1 true), (0b01111110, .subframeLpc false 31 false)],
    reads .subframeHdr [e.1] e.2 = true := by decide

/-- R101, R102: nine zeros and a one; a constant of 9 bits. -/
theorem test_words_wasted_and_constant :
    reads .wastedUnary [0b00000000, 0b01000000] (.wastedUnary 9) = true ∧
    readsIn { ElemCtx.bare with bpsEff := 9 } .constantBody [0b11111110, 0b10000000] (.constantBody 9 (-3)) = true := by
  decide

/-- R103 to R105: a body is its parts; the context gives the order. -/
theorem test_words_bodies :
    reads .verbatimBody [] .verbatimBody = true ∧
    readsIn { ElemCtx.bare with fixedOrder := 3 } .fixedBody [] (.fixedBody 3) = true ∧
    readsIn { ElemCtx.bare with lpcOrderMinus1 := 31 } .lpcBody [] (.lpcBody 31) = true := by decide

/-- R106: 2 bits of method, 4 of partition order; a reserved method ends after 2 bits. -/
theorem test_words_residual_headers :
    reads .residualHdr [0b00101100] (.residualMethod0 11) = true ∧
    reads .residualHdr [0b01000100] (.residualMethod1 1) = true ∧
    reads .residualHdr [0b10000000] .residualMethod2 = true ∧
    reads .residualHdr [0b11000000] .residualMethod3 = true := by decide

/-- R107, R117, method 0. -/
theorem test_words_param4 : ∀ e ∈
    [(0x00, Instr.param4RiceK0), (0x10, .param4RiceK1), (0x20, .param4RiceK2), (0x30, .param4RiceK3),
     (0x40, .param4RiceK4), (0x50, .param4RiceK5), (0x60, .param4RiceK6), (0x70, .param4RiceK7),
     (0x80, .param4RiceK8), (0x90, .param4RiceK9), (0xA0, .param4RiceK10), (0xB0, .param4RiceK11),
     (0xC0, .param4RiceK12), (0xD0, .param4RiceK13), (0xE0, .param4RiceK14), (0xF0, .param4Escape)],
    reads .param4 [e.1] e.2 = true := by decide

/-- R107, R117, method 1, parameters 0 to 15. -/
theorem test_words_param5_low : ∀ e ∈
    [(0b00000000, Instr.param5RiceK0), (0b00001000, .param5RiceK1), (0b00010000, .param5RiceK2),
     (0b00011000, .param5RiceK3), (0b00100000, .param5RiceK4), (0b00101000, .param5RiceK5),
     (0b00110000, .param5RiceK6), (0b00111000, .param5RiceK7), (0b01000000, .param5RiceK8),
     (0b01001000, .param5RiceK9), (0b01010000, .param5RiceK10), (0b01011000, .param5RiceK11),
     (0b01100000, .param5RiceK12), (0b01101000, .param5RiceK13), (0b01110000, .param5RiceK14),
     (0b01111000, .param5RiceK15)],
    reads .param5 [e.1] e.2 = true := by decide

/-- R107, R117, method 1, parameters 16 to 30 and the escape. -/
theorem test_words_param5_high : ∀ e ∈
    [(0b10000000, Instr.param5RiceK16), (0b10001000, .param5RiceK17), (0b10010000, .param5RiceK18),
     (0b10011000, .param5RiceK19), (0b10100000, .param5RiceK20), (0b10101000, .param5RiceK21),
     (0b10110000, .param5RiceK22), (0b10111000, .param5RiceK23), (0b11000000, .param5RiceK24),
     (0b11001000, .param5RiceK25), (0b11010000, .param5RiceK26), (0b11011000, .param5RiceK27),
     (0b11100000, .param5RiceK28), (0b11101000, .param5RiceK29), (0b11110000, .param5RiceK30),
     (0b11111000, .param5Escape)],
    reads .param5 [e.1] e.2 = true := by decide

/-- R107, R108, R109: the vectors of RC2 and RC3, padding from bit 5, a CRC-16. -/
theorem test_words_residuals :
    reads .escapeWidth [0b00011000] (.escapeWidth 3) = true ∧
    readsIn { ElemCtx.bare with bitCount := 3 } .rawResidual [0b10000000] (.rawResidual 3 (-4)) = true ∧
    readsIn { ElemCtx.bare with riceParam := 3 } .riceWord [0b00000100, 0b00000000] (.riceWord 3 5 0) = true ∧
    decodeElem .bare .padding ⟨[0b11111101], 5⟩ = .ok (.padding 3 5) ∧
    reads .crc16 [0xBE, 0xEF] (.crc16 0xBEEF) = true := by decide

/-- R100, R116, R212: the reserved types end before the wasted-bits flag, 7 bits being enough. -/
theorem test_reserved_type_needs_seven_bits :
    decodeElem .bare .subframeHdr ⟨[0b00000011], 1⟩ = .ok (.subframeReserved2To3 false 1) ∧
    decodeElem .bare .subframeHdr ⟨[0b00001101], 1⟩ = .ok (.subframeReserved13 false) := by decide

/-! ## Single steps: the vectors of `95_test_vectors.md` -/

/-- The stream of 2.1. -/
def a5c3f0 (pos : Nat) : State := holding [0xA5, 0xC3, 0xF0] pos

/-- A bit-source call returns `v` and leaves `BITPOS` at `pos`. -/
def returns (i : Instr) (s : State) (v : Int) (pos : Nat) : Bool :=
  nextWith (exec i s) fun t => !t.fault && t.result = v && t.bitpos = pos

/-- A bit-source call faults with P11. -/
def cutShort (i : Instr) (s : State) : Bool := faultIs (exec i s) .init .p11 none none

/-- BS1 to BS4, BS16, BS17. -/
theorem test_get_uint : returns (.getUint 3) (a5c3f0 0) 5 3 = true ∧ returns (.getUint 7) (a5c3f0 3) 23 10 = true ∧
    returns (.getUint 14) (a5c3f0 10) 1008 24 = true ∧ returns (.getUint 24) (a5c3f0 0) 10863600 24 = true ∧
    cutShort (.getUint 5) (a5c3f0 20) = true ∧ returns (.getUint 0) (a5c3f0 24) 0 24 = true := by decide

/-- BS5 to BS9. -/
theorem test_get_int : returns (.getInt 3) (a5c3f0 0) (-3) 3 = true ∧ returns (.getInt 5) (a5c3f0 3) 5 8 = true ∧
    returns (.getInt 8) (a5c3f0 8) (-61) 16 = true ∧ returns (.getInt 1) (a5c3f0 0) (-1) 1 = true ∧
    returns (.getInt 1) (a5c3f0 1) 0 2 = true := by decide

/-- BS10 to BS12, BS18, BS19, BS20. -/
theorem test_get_byte_align_eos_skip : returns .getByte (a5c3f0 4) 0x5C 12 = true ∧
    returns .align (a5c3f0 13) 0 16 = true ∧ returns .align (a5c3f0 16) 0 16 = true ∧
    returns .eos (a5c3f0 23) 0 23 = true ∧ returns .eos (a5c3f0 24) 1 24 = true ∧
    returns (.skipBytes 2) (a5c3f0 0) 0 16 = true ∧ cutShort (.skipBytes 3) (a5c3f0 8) = true := by decide

/-- BS13 to BS15. -/
theorem test_get_unary : returns .getUnary (a5c3f0 8) 0 9 = true ∧ returns .getUnary (a5c3f0 10) 4 15 = true ∧
    cutShort .getUnary (a5c3f0 20) = true := by decide

/-- BS21. -/
theorem test_clz8 : ∀ e ∈ [(0xFF, 0), (0x80, 0), (0x7F, 1), (0x3D, 2), (0x01, 7), (0x00, 8)],
    returns (.clz8 e.1) (a5c3f0 0) e.2 0 = true := by decide

/-- MK1, F-P01, F-P11m, F-P11e. -/
theorem test_decode_marker :
    nextWith (oneCommand 0 (inState .init [0x66, 0x4C, 0x61, 0x43]))
      (fun t => !t.fault && t.decState = .hasMarker && t.bitpos = 32) = true ∧
    faultIs (oneCommand 0 (inState .init [0x66, 0x4C, 0x61, 0x58])) .init .p01 (some (.num 0x664C6158))
      (some (.num 0x664C6143)) = true ∧
    faultIs (oneCommand 0 (inState .init [0x66, 0x4C, 0x61])) .init .p11 none none = true ∧
    faultIs (oneCommand 0 (inState .init [])) .init .p11 none none = true := by decide +kernel

/-- The body of MD6 (F-A02 and F-A01 change two bytes of it). -/
def md6Body (max : Byte) (channels : Byte) : List Byte :=
  [0xFF, 0xFF, max, 0x00, 0xFF, 0xFF, 0xFF, 0xFF, 0xFF, 0xFF, 0xFF, 0xFF, channels, 0xFF, 0xFF, 0xFF, 0xFF, 0xFF] ++
    List.replicate 16 0

/-- MD6, F-A02, F-A01, and both violations at once: A02 (R294). -/
theorem test_decode_metadata_streaminfo :
    nextWith (oneCommand 1 (inState .hasMarker ([0x80, 0x00, 0x00, 0x22] ++ md6Body 0x20 0xF3)))
      (fun t => !t.fault && t.decState = .hasMetadata && t.bitpos = 304 && t.siValid &&
        t.si = ⟨65535, 8192, 16777215, 16777215, 1048575, 2, 32, 68719476735⟩) = true ∧
    faultIs (oneCommand 1 (inState .hasMarker ([0x80, 0x00, 0x00, 0x22] ++ md6Body 0x40 0xF3))) .hasMarker .a02
      (some (.num 16384)) (some (.num 8192)) = true ∧
    faultIs (oneCommand 1 (inState .hasMarker ([0x80, 0x00, 0x00, 0x22] ++ md6Body 0x20 0xF4))) .hasMarker .a01
      (some (.num 3)) (some (.num 2)) = true ∧
    faultIs (oneCommand 1 (inState .hasMarker ([0x80, 0x00, 0x00, 0x22] ++ md6Body 0x40 0xF4))) .hasMarker .a02
      (some (.num 16384)) (some (.num 8192)) = true := by decide +kernel

/-- MD3, MD4, the skipped block of P2. -/
theorem test_decode_metadata_skip :
    nextWith (oneCommand 1 (inState .hasMarker [0xFF, 0x00, 0x00, 0x02, 0xAA, 0xBB]))
      (fun t => !t.fault && t.decState = .hasMetadata && t.bitpos = 48 && !t.siValid) = true ∧
    faultIs (oneCommand 1 (inState .hasMarker [0x81, 0x00, 0x00, 0x05, 0xAA, 0xBB])) .hasMarker .p11 none none = true ∧
    nextWith (oneCommand 1 (inState .hasMarker [0x01, 0x00, 0x00, 0x03, 0xAA, 0xBB, 0xCC, 0x80]))
      (fun t => !t.fault && t.decState = .hasMarker && t.bitpos = 56) = true := by decide +kernel

/-- P1 (SF1), with another blocking strategy, coded number (CN10) and CRC-8. -/
theorem test_constant_frame :
    decodes [0xFF, 0xF8, 0x69, 0x08, 0x00, 0x03, 0x00, 0x00, 0xFF, 0xFF, 0x00, 0x00] [-1, -1, -1, -1] [] = true ∧
    decodes [0xFF, 0xF9, 0x69, 0x08, 0xFF, 0x80, 0x80, 0x80, 0x80, 0x80, 0x80, 0x81, 0x03, 0x5A, 0x00, 0xFF, 0xFF,
      0x00, 0x00] [-1, -1, -1, -1] [] = true := by decide +kernel

/-- The registers that a frame header leaves. -/
def headerGives (bytes : List Byte) (f : FrameRegs) : Bool :=
  nextWith (oneCommand 2 (afterH1 bytes)) fun t => !t.fault && t.fr = f

/-- FH-sr0, FH-sr12, FH-sr13, FH-sr14, FH-ss0, FH-bs6a. -/
theorem test_frame_registers :
    headerGives [0xFF, 0xF8, 0x60, 0x08, 0x00, 0x03, 0x00, 0x00, 0x00, 0x00, 0x00, 0x00] ⟨4, 44100, 0, 1, 16⟩ = true ∧
    headerGives [0xFF, 0xF8, 0x6C, 0x08, 0x00, 0x03, 0x2C, 0x00, 0x00, 0x00, 0x00, 0x00, 0x00]
      ⟨4, 44000, 0, 1, 16⟩ = true ∧
    headerGives [0xFF, 0xF8, 0x6D, 0x08, 0x00, 0x03, 0xAC, 0x44, 0x00, 0x00, 0x00, 0x00, 0x00, 0x00]
      ⟨4, 44100, 0, 1, 16⟩ = true ∧
    headerGives [0xFF, 0xF8, 0x6E, 0x08, 0x00, 0x03, 0xFF, 0xFF, 0x00, 0x00, 0x00, 0x00, 0x00, 0x00]
      ⟨4, 655350, 0, 1, 16⟩ = true ∧
    headerGives [0xFF, 0xF8, 0x69, 0x00, 0x00, 0x00, 0x00, 0x00, 0x00, 0x01, 0x00, 0x00] ⟨1, 44100, 0, 1, 16⟩ = true := by
  decide +kernel

/-- F-P02 to F-A05, ORD1 to ORD3. -/
theorem test_frame_header_faults :
    audioFaults [0xFF, 0xFC, 0x69, 0x08] .p02 (some (.num 0x3FFF)) (some (.num 0x3FFE)) = true ∧
    audioFaults [0xFF, 0xF8, 0x09, 0x08] .p05 (some (.num 0)) none = true ∧
    audioFaults [0xFF, 0xF8, 0x6F, 0x08] .p06 (some (.num 15)) none = true ∧
    audioFaults [0xFF, 0xF8, 0x69, 0xB8] .a03 (some (.num 11)) none = true ∧
    audioFaults [0xFF, 0xF8, 0x69, 0x28] .a04 (some (.num 3)) (some (.num 2)) = true ∧
    audioFaults [0xFF, 0xF8, 0x69, 0x06] .p07 (some (.num 3)) none = true ∧
    audioFaults [0xFF, 0xF8, 0x69, 0x09] .p04 (some (.num 1)) (some (.num 0)) = true ∧
    audioFaults [0xFF, 0xF8, 0x79, 0x08, 0x00, 0x20, 0x00, 0x00, 0x00, 0x00, 0x00, 0x00] .a05 (some (.num 8193))
      (some (.num 8192)) = true := by decide +kernel

/-- ORD1 to ORD3 (R294), F-P11a, F-P11b. -/
theorem test_first_violation_in_stream_order :
    audioFaults [0xFF, 0xFA, 0x09, 0x07] .p03 (some (.num 1)) (some (.num 0)) = true ∧
    audioFaults [0xFF, 0xF8, 0x0F, 0x08] .p05 (some (.num 0)) none = true ∧
    audioFaults [0xFF, 0xF8, 0x69, 0xB6] .a03 (some (.num 11)) none = true ∧
    audioFaults [0xFF] .p11 none none = true ∧ audioFaults [0xFF, 0xF8] .p11 none none = true := by decide +kernel

/-- SF2, SF3. -/
theorem test_verbatim_frame :
    decodes [0xFF, 0xF8, 0x69, 0x08, 0x00, 0x03, 0x00, 0x02, 0x00, 0x01, 0xFF, 0xFE, 0x7F, 0xFF, 0x80, 0x00, 0x00, 0x00]
      [1, -2, 32767, -32768] [] = true ∧
    decodes [0xFF, 0xF8, 0x69, 0x08, 0x00, 0x03, 0x00, 0x82, 0x00, 0x01, 0xFF, 0xFE, 0x7F, 0xFF, 0x80, 0x00, 0x00, 0x00]
      [1, -2, 32767, -32768] [] = true := by decide +kernel

/-- FX4 (cubic extrapolation), FX5, RC5. -/
theorem test_fixed_frame :
    decodes [0xFF, 0xF8, 0x69, 0x08, 0x00, 0x07, 0x00, 0x18, 0x00, 0x00, 0x00, 0x01, 0x00, 0x08, 0x00, 0x1B, 0x43, 0xE0,
      0x00, 0x00] [0, 1, 8, 27, 64, 125, 216, 343] [] = true ∧
    decodes [0xFF, 0xF8, 0x69, 0x08, 0x00, 0x07, 0x00, 0x14, 0x00, 0x01, 0x00, 0x03, 0x00, 0x09, 0x24, 0x90, 0x00, 0x00]
      [1, 3, 6, 10, 15, 21, 28, 36] [] = true ∧
    decodes [0xFF, 0xF8, 0x69, 0x08, 0x00, 0x03, 0x00, 0x12, 0x00, 0x07, 0x08, 0x00, 0x8F, 0xE0, 0x00, 0x00]
      [7, 8, 7, 7] [] = true := by decide +kernel

/-- LP2 (a floor, not a truncation), LP3, the frame of P3 (wasted bits, two partitions, one escaped). -/
theorem test_lpc_frame :
    decodes [0xFF, 0xF8, 0x69, 0x08, 0x00, 0x03, 0x00, 0x42, 0x00, 0x0A, 0xFF, 0xFB, 0x30, 0x9F, 0x80, 0x18, 0x00, 0x00]
      [10, -5, -13, -17] [] = true ∧
    decodes [0xFF, 0xF8, 0x69, 0x08, 0x00, 0x01, 0x00, 0x40, 0x00, 0x04, 0xF7, 0xC0, 0x00, 0x00, 0x10, 0x00, 0x00]
      [4, -4] [] = true ∧
    decodes [0xFF, 0xF8, 0x6D, 0x04, 0x01, 0x07, 0x2B, 0x11, 0x5A, 0x43, 0x20, 0x50, 0x18, 0x61, 0x3F, 0x44, 0x29, 0xFC,
      0x6E, 0x0E, 0x12, 0x34] [40, 48, 56, 52, 60, 48, 40, 32] [] = true := by decide +kernel

/-- W3, F-P13. -/
theorem test_wasted_bits :
    decodes [0xFF, 0xF8, 0x69, 0x08, 0x00, 0x03, 0x00, 0x01, 0x00, 0x7F, 0x00, 0x00, 0x00]
      [-1024, -1024, -1024, -1024] [] = true ∧
    audioFaults [0xFF, 0xF8, 0x69, 0x02, 0x00, 0x03, 0x00, 0x01, 0x00, 0x80, 0x00, 0x00, 0x00] .p13 (some (.num 0))
      none = true := by decide +kernel

/-- F-P08a, F-P09, F-P10, F-P12a, F-P12b, F-P14, F-P11c. -/
theorem test_subframe_faults :
    audioFaults [0xFF, 0xF8, 0x69, 0x08, 0x00, 0x03, 0x00, 0x04, 0xFF, 0xFF, 0x00, 0x00] .p08 (some (.num 2)) none = true ∧
    audioFaults [0xFF, 0xF8, 0x69, 0x08, 0x00, 0x03, 0x00, 0x10, 0x80, 0x00, 0x00] .p09 (some (.num 2)) none = true ∧
    audioFaults [0xFF, 0xF8, 0x69, 0x08, 0x00, 0x05, 0x00, 0x10, 0x08, 0x00, 0x00, 0x00] .p10 (some (.num 6))
      (some (.num 4)) = true ∧
    audioFaults [0xFF, 0xF8, 0x69, 0x08, 0x00, 0x03, 0x00, 0x14, 0x00, 0x01, 0x00, 0x02, 0x08, 0x00, 0x00, 0x00] .p12
      (some (.num 2)) (some (.num 1)) = true ∧
    audioFaults [0xFF, 0xF8, 0x69, 0x08, 0x00, 0x00, 0x00, 0x14, 0x00, 0x07, 0x00, 0x00, 0x00, 0x00] .p12
      (some (.num 2)) (some (.num 1)) = true ∧
    audioFaults [0xFF, 0xF8, 0x69, 0x08, 0x00, 0x03, 0x00, 0x40, 0x00, 0x05, 0x1F, 0xA0, 0x07, 0x00, 0x00] .p14
      (some (.num (-1))) none = true ∧
    audioFaults [0xFF, 0xF8, 0x69, 0x08, 0x00, 0x03, 0x00, 0x00, 0xFF, 0xFF, 0x00] .p11 none none = true := by
  decide +kernel

/-- DC0 to DC2 and the frame of P2: independent, left/side, side/right, mid/side. -/
theorem test_decorrelation :
    decodes [0xFF, 0xF8, 0x69, 0x12, 0x00, 0x02, 0x00, 0x02, 0x05, 0x02, 0xFD, 0x02, 0x02, 0x05, 0xFD, 0x00, 0x00]
      [5, 2, -3] [2, 5, -3] = true ∧
    decodes [0xFF, 0xF8, 0x69, 0x82, 0x00, 0x02, 0x00, 0x02, 0x05, 0x02, 0xFD, 0x02, 0x01, 0xFF, 0x40, 0x00, 0x00, 0x00]
      [5, 2, -3] [2, 5, -3] = true ∧
    decodes [0xFF, 0xF8, 0x69, 0x92, 0x00, 0x02, 0x00, 0x02, 0x01, 0xFF, 0x40, 0x00, 0x40, 0x40, 0xBF, 0xA0, 0x00, 0x00]
      [5, 2, -3] [2, 5, -3] = true ∧
    decodes [0xFF, 0xF9, 0x6A, 0xA2, 0xC2, 0x80, 0x03, 0x00, 0x02, 0x03, 0x03, 0xFD, 0x00, 0x12, 0x01, 0x80, 0x6B, 0xE0,
      0x40, 0xBE, 0xEF] [5, 2, -3, 10] [2, 5, -3, -10] = true := by decide +kernel

/-- EOS1 (R78). -/
theorem test_audio_at_the_end :
    nextWith (oneCommand 2 (afterH1 [])) (fun t => !t.fault && t.decState = .complete && !t.frValid && t.bitpos = 0) =
      true := by decide +kernel

/-- ST1, ST3, ST5 (R150), ST4 (R161). -/
theorem test_state_machine_guards :
    faultIs (oneCommand 1 (inState .init [0x66])) .init .a07 (some (.cmd .decodeMetadata)) (some (.st .init)) = true ∧
    faultIs (oneCommand 0 (inState .hasMarker [])) .hasMarker .a07 (some (.cmd .decodeMarker))
      (some (.st .hasMarker)) = true ∧
    faultIs (oneCommand 1 (afterH1 [])) .hasMetadata .a07 (some (.cmd .decodeMetadata))
      (some (.st .hasMetadata)) = true ∧
    faultIs (oneCommand 0 ({ inState .hasMarker [] with fault := true, faultKind := .assertionError, faultCause := .a07 }))
      .hasMarker .a07 none none = true := by decide +kernel

/-- RC1 (R255). -/
theorem test_zigzag : [0, 1, 2, 3, 4, 5, 6, 7, 40, 11].map zigzag = [0, -1, 1, -2, 2, -3, 3, -4, 20, -6] ∧
    zigzag 4294967294 = 2147483647 ∧ zigzagInv (-2147483648) = 4294967295 := by decide

/-- The 64-bit range of R226: the arithmetic-only cases of F-A06. -/
theorem test_i64 : i64 (shl (2 ^ 62) 1) = none ∧ i64 (2 ^ 63 - 1) = some (2 ^ 63 - 1) ∧ i64 (-2 ^ 63) = some (-2 ^ 63) ∧
    i64 (2 ^ 63) = none := by decide

/-- A table row's word reaches the machine as the first step after reset. -/
theorem test_fetch_word :
    decodeTableWord 32 0x664C6143 = some .marker ∧
    nextWith (step (State.reset.withFetchWord 32 0x664C6143)) (fun t => !t.fault && t.bitpos = 32) = true ∧
    decodeTableWord 32 0xFFF96AA2 = some (.framePreamble true 6 10 10 1) := by decide +kernel

theorem carries_of {bytes : List Byte} {pos : Nat} {bits : List Bool}
    (h : pos + bits.length ≤ 8 * bytes.length ∧ ∀ i, i < bits.length → bitAt bytes (pos + i) = bits.getD i false) :
    carries bytes pos bits := h

/-! ## Witnesses: states and operands that meet the hypotheses of the statements

One theorem per statement with hypotheses; a conjunct per clause, at a boundary of its range. -/

/-- No fault is latched and exactly `n` bits are left. -/
abbrev exactly (n : Nat) (s : State) : Prop := s.fault = false ∧ s.bitpos + n = s.bitLength

/-- No fault is latched and one bit less than `n` is left. -/
abbrev oneShort (n : Nat) (s : State) : Prop := s.fault = false ∧ s.bitpos + n = s.bitLength + 1

/-- `n` zero bytes, at bit `pos`. -/
def zeros (n pos : Nat) : State := holding (List.replicate n 0) pos

theorem witness_GetUintReads : exactly 64 (zeros 8 0) ∧ oneShort 64 (zeros 8 1) ∧ exactly 1 (zeros 1 7) ∧
    exactly 0 (zeros 1 8) ∧ 32 + 32 = 64 ∧ 64 ≤ 64 := by decide

theorem witness_GetIntSignExtends : exactly 64 (holding (List.replicate 8 0xFF) 0) ∧ exactly 64 (zeros 8 0) ∧
    oneShort 64 (zeros 8 1) ∧ exactly 0 (zeros 1 8) := by decide

theorem witness_GetByteAlignClz8Eos : exactly 8 (zeros 2 8) ∧ oneShort 8 (zeros 2 9) ∧
    (zeros 2 16).bitpos = 8 * (zeros 2 16).stream.length ∧ (zeros 2 9).bitpos % 8 = 1 ∧ (1 : Byte) ≠ 0 := by
  decide

theorem witness_GetUnaryCountsZeros :
    (holding [0x00, 0x01] 0).fault = false ∧ 0 + 15 + 1 ≤ (holding [0x00, 0x01] 0).bitLength ∧
    (∀ i, i < 15 → bitAt [0x00, 0x01] (0 + i) = false) ∧ bitAt [0x00, 0x01] (0 + 15) = true ∧
    (zeros 1 3).fault = false ∧ ∀ i, 3 + i < (zeros 1 3).bitLength → bitAt [0x00] (3 + i) = false := by
  refine ⟨by decide, by decide, by decide, by decide, by decide, fun i h => ?_⟩
  have : i < 5 := by simp [zeros, holding, State.construct, State.bitLength] at h; omega
  interval_cases i <;> decide

theorem witness_SkipBytesReadsOctets : exactly (8 * 2) (zeros 3 8) ∧ oneShort (8 * 2) (zeros 3 9) ∧
    (zeros 3 9).bitpos ≤ (zeros 3 9).bitLength := by decide

theorem witness_DecodeOfEncode :
    (Instr.riceWord 3 5 0).WellFormed ∧ (Instr.riceWord 3 5 0).kind? = some .riceWord ∧
    (Instr.riceWord 3 5 0).agrees { ElemCtx.bare with riceParam := 3 } 7 ∧
    carries [0x00, 0x08, 0x00] 7 (encode (.riceWord 3 5 0)) ∧
    (Instr.constantBody 64 (-2 ^ 63)).WellFormed ∧ (Instr.constantBody 64 (-2 ^ 63)).kind? = some .constantBody ∧
    (Instr.constantBody 64 (-2 ^ 63)).agrees { ElemCtx.bare with bpsEff := 64 } 0 ∧
    carries (0x80 :: List.replicate 7 0) 0 (encode (.constantBody 64 (-2 ^ 63))) :=
  ⟨by decide, by decide, rfl, carries_of (by decide +kernel), by decide, by decide, rfl, carries_of (by decide +kernel)⟩

theorem witness_EncodeOfDecode :
    decodeElem { ElemCtx.bare with bpsEff := 64, bitCount := 31, riceParam := 30 } .rawResidual
      ⟨[0x7F, 0xFF, 0xFF, 0xFF], 1⟩ = .ok (.rawResidual 31 (-1)) ∧ 1 ≤ 8 * 4 ∧
    decodeElem { ElemCtx.bare with bpsEff := 1, bitCount := 0, riceParam := 0 } .rawResidual ⟨[], 0⟩ =
      .ok (.rawResidual 0 0) := by decide +kernel

theorem witness_StepRunsTheDecodedInstruction :
    ((zeros 1 0).setPort [.command 3]).port = .command 3 :: [] ∧
    ((zeros 1 0).setPort [.bitSource .align]).port = .bitSource .align :: [] ∧
    (∃ i, decodeElem (zeros 1 0).elemCtx .bsCode ⟨(zeros 1 0).stream, (zeros 1 0).bitpos⟩ = .ok i) ∧
    (∃ r, decodeElem (zeros 1 8).elemCtx .bsCode ⟨(zeros 1 8).stream, (zeros 1 8).bitpos⟩ = .error r) ∧
    (zeros 1 8).fault = false ∧ ({ zeros 1 8 with fault := true } : State).fault = true ∧ (zeros 1 0).port = [] :=
  ⟨rfl, rfl, ⟨.bsCode0, by decide⟩, ⟨.endOfStream, by decide⟩, rfl, rfl, rfl⟩

theorem witness_ConstructionResets :
    ((zeros 1 8).setPort [.construct [0x66] 1, .command 0]).port = .construct [0x66] 1 :: [.command 0] ∧ 1 ≤ 1 :=
  ⟨rfl, by decide⟩

/-- After a decoded frame of 2 channels and 3 samples. -/
def framed : State :=
  { afterH1 [] with frValid := true, fr := ⟨3, 44100, 1, 2, 8⟩, sb0 := [(0, 5), (1, 2), (2, -3)], sb1 := [(0, 2), (1, 5), (2, -3)] }

theorem witness_HostReadsUnderTheirConditions :
    framed.fault = false ∧ framed.siValid = true ∧ framed.decState = .hasMetadata ∧ framed.frValid = true ∧
    (1 < framed.fr.nch.toNat ∧ 2 < framed.fr.blocksize.toNat) ∧ ¬ 2 < framed.fr.nch.toNat ∧ ¬ 3 < framed.fr.blocksize.toNat ∧
    (inState .complete []).decState = .complete ∧ (inState .complete []).siValid = false ∧
    ({ framed with fault := true } : State).fault = true := by decide

theorem witness_EveryFaultEntry : ∃ t, exec .decodeMarker (inState .init [0x66, 0x4C, 0x61, 0x58]) = .next t ∧
    t.fault = true := by
  obtain ⟨t, h, p⟩ := nextWith_exists (o := exec .decodeMarker (inState .init [0x66, 0x4C, 0x61, 0x58]))
    (p := fun t => t.fault) (by decide +kernel)
  exact ⟨t, h, p⟩

theorem witness_LatchedFaultIsReturnedAgain : ({ framed with fault := true } : State).fault = true ∧
    Instr.decodeAudio ≠ .command3Unused ∧ Instr.crc16 0 ≠ .command3Unused ∧
    (∀ stream n rest, ({ framed with fault := true } : State).port ≠ .construct stream n :: rest) ∧
    ∃ t, step { framed with fault := true } = .next t :=
  ⟨rfl, by decide, by decide, fun _ _ _ h => by simp [framed, afterH1, inState, holding, State.construct] at h, ⟨_, rfl⟩⟩

theorem witness_OnlyConstructionClearsTheFault :
    ({ framed with fault := true, port := [.command 0] } : State).fault = true ∧
    (∀ stream n rest, ({ framed with fault := true, port := [.command 0] } : State).port ≠ .construct stream n :: rest) ∧
    ∃ t, step { framed with fault := true, port := [.command 0] } = .next t :=
  ⟨rfl, fun _ _ _ h => by simp at h, ⟨_, rfl⟩⟩

theorem witness_IllegalCommandIsGuarded : (inState .hasMarker []).fault = false ∧
    (inState .hasMarker []).decState ≠ .init ∧ (inState .init []).decState ≠ .hasMarker ∧ ((inState .hasMarker []).decState = .init ∨
      (inState .hasMarker []).decState = .hasMarker) ∧ ({ framed with fault := true } : State).fault = true ∧
    nextWith (exec .decodeMarker (inState .init [])) (fun t => t.fault) = true ∧
    nextWith (exec .decodeMetadata (inState .hasMarker [])) (fun t => t.fault) = true ∧
    nextWith (exec .decodeAudio (afterH1 [0xFF])) (fun t => t.fault) = true := by decide +kernel

/-- A step that serves one request answers a next state with `p`. -/
def stepGives (r : Request) (s : State) (p : State → Bool) : Bool := nextWith (step (s.setPort [r])) p

theorem stepGives_exists {r : Request} {s : State} {p : State → Bool} (h : stepGives r s p = true) :
    ∃ t, (s.setPort [r]).port = r :: [] ∧ step (s.setPort [r]) = .next t ∧ p t = true := by
  obtain ⟨t, h1, h2⟩ := nextWith_exists h
  exact ⟨t, rfl, h1, h2⟩

/-- The frame of P1. -/
def p1Frame : List Byte := [0xFF, 0xF8, 0x69, 0x08, 0x00, 0x03, 0x00, 0x00, 0xFF, 0xFF, 0x00, 0x00]

/-- Each of the six transitions is taken; the premise holds in `COMPLETE`. -/
theorem witness_StateMachine :
    stepGives (.command 0) (inState .init [0x66, 0x4C, 0x61, 0x43]) (fun t => !t.fault && t.decState = .hasMarker) = true ∧
    stepGives (.command 1) (inState .hasMarker [0x01, 0x00, 0x00, 0x00])
      (fun t => !t.fault && t.decState = .hasMarker) = true ∧
    stepGives (.command 1) (inState .hasMarker [0x81, 0x00, 0x00, 0x00])
      (fun t => !t.fault && t.decState = .hasMetadata) = true ∧
    stepGives (.command 2) (afterH1 p1Frame) (fun t => !t.fault && t.decState = .hasMetadata) = true ∧
    stepGives (.command 2) (afterH1 []) (fun t => !t.fault && t.decState = .complete) = true ∧
    stepGives (.command 2) (inState .complete []) (fun t => !t.fault && t.decState = .complete) = true ∧
    (inState .complete []).eos = true ∧
    stepGives (.element .crc8) (zeros 1 0) (fun t => !t.fault) = true ∧
    stepGives (.element .crc8) (zeros 1 1) (fun t => t.fault) = true := by decide +kernel

theorem witness_StepKeepsLegal : framed.Legal ∧ (State.construct [0x01] 1).Legal ∧
    (∃ t, step (framed.setPort [.command 2]) = .next t) ∧ (framed.setPort [.command 2]).Legal := by
  refine ⟨?_, ?_, ?_, ?_⟩
  · unfold State.Legal StreamInfo.legal FrameRegs.legal; decide +kernel
  · unfold State.Legal StreamInfo.legal FrameRegs.legal; decide +kernel
  · obtain ⟨t, h, _⟩ := nextWith_exists (o := step (framed.setPort [.command 2])) (p := fun _ => true) (by decide +kernel)
    exact ⟨t, h⟩
  · unfold State.Legal StreamInfo.legal FrameRegs.legal; decide +kernel

theorem witness_BitposOnlyIncreases : ∃ t, step ((afterH1 p1Frame).setPort [.command 2]) = .next t ∧ t.fault = false ∧
    (afterH1 p1Frame).bitpos ≤ (afterH1 p1Frame).bitLength ∧ (afterH1 p1Frame).bitpos % 8 = 0 := by
  obtain ⟨t, _, h, p⟩ := stepGives_exists (r := .command 2) (s := afterH1 p1Frame) (p := fun t => !t.fault)
    (by decide +kernel)
  exact ⟨t, h, by simpa using p, by decide, by decide⟩

theorem witness_CompleteMeansAtTheEnd : ∃ t, step ((afterH1 []).setPort [.command 2]) = .next t ∧ t.decState = .complete ∧
    t.fault = false ∧ (afterH1 []).bitpos ≤ (afterH1 []).bitLength ∧ (afterH1 []).decState ≠ .complete := by
  obtain ⟨t, _, h, p⟩ := stepGives_exists (r := .command 2) (s := afterH1 [])
    (p := fun t => !t.fault && t.decState = .complete) (by decide +kernel)
  simp at p
  exact ⟨t, h, p.2, p.1, by decide, by decide⟩

theorem succeeds {i : Instr} {s : State} (h : nextWith (exec i s) (fun t => !t.fault) = true) :
    ∃ t, exec i s = .next t ∧ t.fault = false := by
  obtain ⟨t, h, p⟩ := nextWith_exists h
  exact ⟨t, h, by simpa using p⟩

theorem witness_EachGroupHasItsCommand :
    (∃ t, exec .decodeAudio (afterH1 p1Frame) = .next t ∧ t.fault = false) ∧
    (∃ t, exec .decodeMarker (inState .init [0x66, 0x4C, 0x61, 0x43]) = .next t ∧ t.fault = false) ∧
    ∃ t, exec .decodeMetadata (inState .hasMarker [0x81, 0x00, 0x00, 0x00]) = .next t ∧ t.fault = false := by
  exact ⟨succeeds (by decide +kernel), succeeds (by decide +kernel), succeeds (by decide +kernel)⟩

theorem witness_EveryRunEnds : 1 ≤ 1 ∧ ∃ t, drive 3 (State.construct [] 1) = .next t ∧ t.Failed := by
  obtain ⟨t, h, p⟩ := nextWith_exists (o := drive 3 (State.construct [] 1)) (p := fun t => t.fault) (by decide +kernel)
  exact ⟨by decide, t, h, p⟩

theorem witness_DecodeMarkerChecksTheMarker :
    exactly 32 (inState .init [0x66, 0x4C, 0x61, 0x43]) ∧ (inState .init [0x66, 0x4C, 0x61, 0x43]).ahead 0 32 = 0x664C6143 ∧
    (inState .init [0x66, 0x4C, 0x61, 0x58]).ahead 0 32 ≠ 0x664C6143 ∧ (inState .init []).bitLength < 0 + 32 := by
  decide

theorem witness_DecodeMetadataSkipsOtherTypes :
    (∀ bytes ∈ [[0x81, 0x00, 0x00, 0x01, 0xAA], [0x81, 0x00, 0x00, 0x01]],
      (inState .hasMarker bytes).fault = false ∧ (inState .hasMarker bytes).decState = .hasMarker ∧
      32 ≤ (inState .hasMarker bytes).bitLength ∧ (inState .hasMarker bytes).ahead 8 24 = 1 ∧
      (inState .hasMarker bytes).ahead 1 7 ≠ 0) ∧
    exactly (32 + 8 * 1) (inState .hasMarker [0x81, 0x00, 0x00, 0x01, 0xAA]) ∧
    (inState .hasMarker [0x81, 0x00, 0x00, 0x01]).bitLength < 32 + 8 * 1 ∧
    (inState .hasMarker [0x81, 0x00, 0x00]).bitLength < 0 + 32 := by decide

/-- `HAS_MARKER` before a STREAMINFO block with this high byte of `max_block_size` and this channel byte. -/
def beforeStreaminfo (max channels : Byte) : State :=
  inState .hasMarker ([0x80, 0x00, 0x00, 0x00] ++ md6Body max channels)

/-- The premises that the statements about a STREAMINFO block share. -/
abbrev AtStreaminfo (s : State) : Prop :=
  s.fault = false ∧ s.decState = .hasMarker ∧ s.ahead 1 7 = 0 ∧ s.bitpos + 32 ≤ s.bitLength

theorem witness_DecodeMetadataParsesStreaminfo : AtStreaminfo (beforeStreaminfo 0x20 0xF3) ∧
    exactly 304 (beforeStreaminfo 0x20 0xF3) ∧
    (beforeStreaminfo 0x20 0xF3).ahead 48 16 = (beforeStreaminfo 0x20 0xF3).capacity ∧
    (beforeStreaminfo 0x20 0xF3).ahead 132 3 + 1 = 2 := by decide +kernel

/-- The first `n` bytes of such a block. -/
def streaminfoCutTo (n : Nat) : State := inState .hasMarker ((beforeStreaminfo 0x20 0xF3).stream.take n)

/-- The five clauses in order: a cut before `max_block_size`, A02, a cut behind it, A01, a cut behind the channels. -/
theorem witness_StreaminfoChecksInOrder :
    (AtStreaminfo (streaminfoCutTo 4) ∧ (streaminfoCutTo 4).bitLength < 64) ∧
    (AtStreaminfo (beforeStreaminfo 0x40 0xF3) ∧ 8192 < (beforeStreaminfo 0x40 0xF3).ahead 48 16) ∧
    (AtStreaminfo (streaminfoCutTo 16) ∧ 64 ≤ (streaminfoCutTo 16).bitLength ∧ (streaminfoCutTo 16).bitLength < 135 ∧
      (streaminfoCutTo 16).ahead 48 16 ≤ 8192) ∧
    (AtStreaminfo (beforeStreaminfo 0x20 0xF4) ∧ (beforeStreaminfo 0x20 0xF4).ahead 48 16 ≤ 8192 ∧
      (beforeStreaminfo 0x20 0xF4).ahead 132 3 + 1 = 3) ∧
    AtStreaminfo (streaminfoCutTo 37) ∧ 135 ≤ (streaminfoCutTo 37).bitLength ∧ (streaminfoCutTo 37).bitLength < 304 ∧
    (streaminfoCutTo 37).ahead 48 16 ≤ 8192 ∧ (streaminfoCutTo 37).ahead 132 3 + 1 ≤ 2 := by
  decide +kernel

theorem witness_DecodeAudioAtTheEnd : (afterH1 []).fault = false ∧ (afterH1 []).decState = .hasMetadata ∧
    (afterH1 []).bitpos = 8 * (afterH1 []).stream.length ∧ (inState .complete []).decState = .complete := by decide

/-- The premises of `DecodedFrameLeaves` and of `FrameRegistersFromTheHeader`. -/
theorem witness_DecodedFrameLeaves : (afterH1 p1Frame).eos = false ∧ (afterH1 p1Frame).decState = .hasMetadata ∧
    ∃ t, exec .decodeAudio (afterH1 p1Frame) = .next t ∧ t.fault = false :=
  ⟨by decide, by decide, succeeds (by decide +kernel)⟩

theorem witness_FrameRegistersFromTheHeader :
    (∃ t, exec .decodeAudio (afterH1 [0xFF, 0xF8, 0x60, 0x00, 0x00, 0x03, 0x00, 0x00, 0xFF, 0xFF, 0x00, 0x00]) = .next t ∧
      t.fault = false) ∧ (afterH1 []).siValid = true ∧ (afterH1 p1Frame).ahead 20 4 ≠ 0 ∧
    (afterH1 p1Frame).ahead 28 3 ≠ 0 :=
  ⟨succeeds (by decide +kernel), by decide, by decide, by decide⟩

theorem witness_FrameHeaderFaultOrder :
    (∀ bytes ∈ [[0xFF, 0xFA, 0x09, 0x07], [0xFF], [0xFF, 0xF8, 0x69, 0x08], [0xFF, 0xF8, 0x69, 0x08, 0x00, 0x03],
        [0xFF, 0xF8, 0x79, 0x08, 0x00, 0x20, 0x00, 0x00]],
      (afterH1 bytes).fault = false ∧ (afterH1 bytes).decState = .hasMetadata ∧ (afterH1 bytes).eos = false) ∧
    (afterH1 [0xFF, 0xFA, 0x09, 0x07]).firstFault (afterH1 [0xFF, 0xFA, 0x09, 0x07]).headerChecks =
      some (.gotOf .p03 1 0) ∧
    (afterH1 [0xFF]).firstFault (afterH1 [0xFF]).headerChecks = some .endOfStream ∧
    (afterH1 [0xFF, 0xF8, 0x69, 0x08]).firstFault (afterH1 [0xFF, 0xF8, 0x69, 0x08]).headerChecks = none ∧
    (afterH1 [0xFF, 0xF8, 0x69, 0x08]).bitLength < 40 ∧
    (afterH1 [0xFF, 0xF8, 0x69, 0x08, 0x00, 0x03]).bitLength + 8 = (afterH1 [0xFF, 0xF8, 0x69, 0x08, 0x00, 0x03]).headerBits ∧
    (afterH1 [0xFF, 0xF8, 0x79, 0x08, 0x00, 0x20, 0x00, 0x00]).headerBlocksize = 8193 ∧
    (afterH1 [0xFF, 0xF8, 0x79, 0x08, 0x00, 0x20, 0x00, 0x00]).headerBits = 64 := by decide +kernel

/-! ### Elements: 8 bits at most, exactly there or one bit short -/

theorem witness_MetadataElements : exactly 32 (zeros 5 8) ∧ exactly (8 * (3 : BitVec 24).toNat) (zeros 3 0) ∧
    oneShort (8 * (3 : BitVec 24).toNat) (zeros 3 1) := by decide

theorem witness_StreaminfoBodyElement : exactly 272 (zeros 34 0) ∧ (zeros 34 0).capacity < (8193 : BitVec 16).toNat ∧
    (8192 : BitVec 16).toNat ≤ (zeros 34 0).capacity ∧ 2 ≤ (2 : BitVec 3).toNat ∧ (1 : BitVec 3).toNat ≤ 1 := by
  decide

theorem witness_BlocksizeCodes : exactly 4 (zeros 1 4) ∧ exactly 8 (zeros 1 0) ∧ exactly 16 (zeros 2 0) := by
  decide

theorem witness_SampleRateCodes : exactly 4 { afterH1 [0] with bitpos := 4 } ∧ (afterH1 [0]).siValid = true ∧
    exactly 4 (zeros 1 4) ∧ (zeros 1 4).siValid = false ∧ exactly 8 (zeros 1 0) ∧ exactly 16 (zeros 2 0) := by
  decide

theorem witness_ChannelAssignmentCodes : exactly 4 (zeros 1 4) := by decide

theorem witness_SampleSizeCodes : exactly 3 { afterH1 [0] with bitpos := 5 } ∧ exactly 3 (zeros 1 5) ∧
    (zeros 1 5).siValid = false := by decide

theorem witness_FramePreambleElement : exactly 32 (zeros 4 0) ∧ (15 : BitVec 4) ≠ 0 ∧ (0 : BitVec 4) ≠ 15 ∧
    (10 : BitVec 4).toNat ∈ [0, 1, 8, 9, 10] ∧ (7 : BitVec 3) ≠ 3 ∧ 11 ≤ (11 : BitVec 4).toNat ∧
    2 ≤ (2 : BitVec 4).toNat ∧ (7 : BitVec 4).toNat ≤ 7 := by decide

theorem witness_CodedNumberRows : exactly 8 (zeros 1 0) ∧ exactly 16 (zeros 2 0) ∧ exactly 24 (zeros 3 0) ∧
    exactly 32 (zeros 4 0) ∧ exactly 40 (zeros 5 0) ∧ exactly 48 (zeros 6 0) ∧ exactly 56 (zeros 7 0) ∧
    exactly 64 (zeros 8 0) ∧
    decodeElem .bare .codedNumber ⟨[0xC2, 0x80], 0⟩ = .ok (.codedNumberK1C0 2 0x80) := by decide

theorem witness_DiscardedFields : exactly 8 (zeros 1 0) ∧ oneShort 8 (zeros 1 1) ∧ exactly 16 (zeros 2 0) ∧
    oneShort 16 (zeros 2 1) ∧ (Instr.padding 7 0x7F).WellFormed ∧ 7 = padWidth (zeros 1 1).bitpos ∧
    (Instr.padding 0 0).WellFormed ∧ 0 = padWidth (zeros 1 8).bitpos := by decide

theorem witness_SubframeHeaderRows : exactly 8 (zeros 1 0) ∧ exactly 7 (zeros 1 1) := by decide

/-- Channel 1 of a frame of blocksize `n` that starts at bit `pos` of `bytes`, with fields of `width` bits. -/
def inSubframe (n : BitVec 17) (ca : BitVec 4) (width : Nat) (bytes : List Byte) (pos : Nat) : State :=
  { holding bytes pos with
    fr := ⟨n, 44100, ca, 2, 16⟩
    work := { Work.atReset with ch := 1, bpsEff := width } }

theorem witness_WastedBitsAndWidth : exactly (9 + 1) (zeros 2 6) ∧
    (inSubframe 4 8 0 [] 0).fr.bps.toNat + 1 - (inSubframe 4 8 0 [] 0).work.w = 17 ∧
    ((inSubframe 4 8 0 [] 0).fr.chAssign = 8 ∧ (inSubframe 4 8 0 [] 0).work.ch = 1) ∧
    (({ inSubframe 4 8 0 [] 0 with work := { Work.atReset with ch := 1, w := 17 } } : State).fr.bps.toNat : Int) + 1 - 17 = 0 := by
  decide

/-- The premises that the statements about a subframe body share. -/
abbrev BodyReady (s : State) : Prop :=
  s.fault = false ∧ s.work.ch ≤ 1 ∧ s.fr.blocksize.toNat ≤ s.capacity ∧ 1 ≤ s.work.bpsEff ∧ s.work.bpsEff ≤ 64 ∧
  s.bitpos ≤ s.bitLength

theorem witness_ConstantBodyFills : (Instr.constantBody 64 (-2 ^ 63)).WellFormed ∧
    BodyReady (inSubframe 8192 8 64 (List.replicate 8 0) 0) ∧ BodyReady (inSubframe 8192 8 64 (List.replicate 8 0) 1) ∧
    exactly 64 (inSubframe 8192 8 64 (List.replicate 8 0) 0) ∧
    oneShort 64 (inSubframe 8192 8 64 (List.replicate 8 0) 1) := by
  decide +kernel

theorem witness_VerbatimBodyReads : BodyReady (inSubframe 2 8 8 [1, 2] 0) ∧ BodyReady (inSubframe 2 8 8 [1, 2] 1) ∧
    exactly (2 * 8) (inSubframe 2 8 8 [1, 2] 0) ∧ oneShort (2 * 8) (inSubframe 2 8 8 [1, 2] 1) := by
  decide

/-- The residual of P2: method 0, one partition, parameter 3. -/
def p2Residual : ResidualPlan := ⟨0, 0, [.rice 3 [-6, 3, 20]]⟩

/-- The residual of P3: method 1, a Rice-coded and an escaped partition. -/
def p3Residual : ResidualPlan := ⟨1, 1, [.rice 1 [1, -2], .escaped 3 [3, -4, 0, -1]]⟩

/-- The side samples of P2. -/
def p2Side (i : Nat) : Int := [3, -3, 0, 20].getD i 0

/-- The unshifted samples of P3. -/
def p3Samples (i : Nat) : Int := [10, 12, 14, 13, 15, 12, 10, 8].getD i 0

theorem p2_residual_legal : p2Residual.legal 1 4 :=
  ⟨by decide, by decide, by decide, by decide, by decide, by simp [p2Residual, PartitionPlan.legal]; decide, by decide⟩

theorem p3_residual_legal : p3Residual.legal 2 8 :=
  ⟨by decide, by decide, by decide, by decide, by decide, by simp [p3Residual, PartitionPlan.legal]; decide, by decide⟩

theorem p2_predicted : Predicted (fixedCoef 1) 0 [3] p2Residual.values 4 p2Side := by
  unfold Predicted; decide +kernel

theorem p3_predicted : Predicted [3, -1] 1 [10, 12] p3Residual.values 8 p3Samples := by
  unfold Predicted; decide +kernel

/-- Channel 1's body of P2, from bit 48 of its frame part on. -/
theorem witness_FixedBodyRestores :
    (BodyPlan.fixed 1 [3] p2Residual).produces 9 4 p2Side ∧
    carries [0x01, 0x80, 0x6B, 0xE0, 0x40] 0 ((BodyPlan.fixed 1 [3] p2Residual).bits 9) ∧
    BodyReady (inSubframe 4 10 9 [0x01, 0x80, 0x6B, 0xE0, 0x40] 0) :=
  ⟨⟨by decide, by decide, by decide, p2_residual_legal, p2_predicted⟩, carries_of (by decide +kernel),
    by decide⟩

/-- The body of P3, from bit 419 of its stream on. -/
theorem witness_LpcBodyRestores :
    (BodyPlan.lpc 1 [10, 12] 3 1 [3, -1] p3Residual).produces 10 8 p3Samples ∧
    carries [0x20, 0x50, 0x18, 0x61, 0x3F, 0x44, 0x29, 0xFC, 0x6E, 0x0E] 3
      ((BodyPlan.lpc 1 [10, 12] 3 1 [3, -1] p3Residual).bits 10) ∧
    BodyReady (inSubframe 8 0 10 [0x20, 0x50, 0x18, 0x61, 0x3F, 0x44, 0x29, 0xFC, 0x6E, 0x0E] 3) :=
  ⟨⟨by decide, by decide, by decide, by decide, by decide, p3_residual_legal, p3_predicted⟩,
    carries_of (by decide +kernel), by decide⟩

theorem witness_PredictorChecks :
    (inSubframe 3 8 8 [] 0).fr.blocksize.toNat < (4 : Fin 5).val ∧
    (inSubframe 1 8 8 [] 0).fr.blocksize.toNat < (1 : BitVec 5).toNat + 1 ∧
    BodyReady (inSubframe 1 8 8 [5, 0x1F, 0x80] 0) ∧
    (0 : BitVec 5).toNat + 1 ≤ (inSubframe 1 8 8 [5, 0x1F, 0x80] 0).fr.blocksize.toNat ∧
    0 + ((0 : BitVec 5).toNat + 1) * 8 + 9 ≤ (inSubframe 1 8 8 [5, 0x1F, 0x80] 0).bitLength ∧
    16 ≤ (inSubframe 1 8 8 [5, 0x1F, 0x80] 0).ahead (1 * 8 + 4) 5 := by decide

/-- Channel 1 holds 1 and `2^62`, to be shifted by 1. -/
def toShift : State :=
  { inSubframe 2 8 8 [] 0 with sb1 := [(0, 1), (1, 2 ^ 62)], work := { Work.atReset with ch := 1, w := 1, bpsEff := 8 } }

theorem witness_WastedShiftMultiplies :
    framed.fault = false ∧ framed.work.ch ≤ 1 ∧ framed.fr.blocksize.toNat ≤ framed.capacity ∧ BodyReady toShift ∧
    (∀ i, i < framed.fr.blocksize.toNat →
      -2 ^ 63 ≤ framed.sample framed.work.ch i * 2 ^ framed.work.w ∧
      framed.sample framed.work.ch i * 2 ^ framed.work.w ≤ 2 ^ 63 - 1) ∧
    2 ^ 63 - 1 < toShift.sample toShift.work.ch 1 * 2 ^ toShift.work.w ∧ 1 < toShift.fr.blocksize.toNat := by
  decide +kernel

/-- Bit 2 of a zero byte, in a subframe of blocksize `n` with a predictor of order 2. -/
def atResidual (n : BitVec 17) : State := { inSubframe n 8 8 [0] 2 with work := { Work.atReset with order := 2 } }

theorem witness_ResidualHeaderRows :
    exactly 6 (atResidual 6) ∧ (atResidual 6).fr.blocksize.toNat % 2 ^ (2 : BitVec 4).toNat ≠ 0 ∧
    exactly 6 (atResidual 4) ∧ (atResidual 4).fr.blocksize.toNat % 2 ^ (2 : BitVec 4).toNat = 0 ∧
    (atResidual 4).fr.blocksize.toNat / 2 ^ (2 : BitVec 4).toNat < (atResidual 4).work.order ∧
    exactly 6 (atResidual 8) ∧ (atResidual 8).fr.blocksize.toNat % 2 ^ (2 : BitVec 4).toNat = 0 ∧
    (atResidual 8).work.order ≤ (atResidual 8).fr.blocksize.toNat / 2 ^ (2 : BitVec 4).toNat ∧
    exactly 2 (inSubframe 4 8 8 [0] 6) := by
  decide

theorem witness_PartitionParameters : exactly 4 (zeros 1 4) ∧ exactly 5 (zeros 1 3) := by decide

/-- The premises of the stored residuals. -/
abbrev CellReady (s : State) : Prop := s.fault = false ∧ s.work.ch ≤ 1 ∧ s.work.index < s.capacity

theorem witness_ResidualsAreStored :
    exactly 5 (zeros 1 3) ∧ CellReady (zeros 4 1) ∧ exactly 31 (zeros 4 1) ∧ (Instr.rawResidual 31 (-1)).WellFormed ∧
    CellReady (zeros 1 8) ∧ exactly 0 (zeros 1 8) ∧ (Instr.rawResidual 0 0).WellFormed ∧
    CellReady (zeros 4 0) ∧ (Instr.riceWord 30 1 0).WellFormed ∧ exactly (1 + 1 + 30) (zeros 4 0) ∧
    (1 * 2 ^ 30 + 0) % 2 = 0 ∧ ((1 * 2 ^ 30 + 0 : Nat) : Int) / 2 ≤ 2 ^ 63 - 1 := by
  decide

theorem cell_ready_zeros (n : Nat) : CellReady (zeros n 0) := ⟨rfl, Nat.zero_le _, Nat.zero_lt_succ _⟩

theorem zeros_bitLength (n : Nat) : (zeros n 0).bitLength = 8 * n := by
  show 8 * (List.replicate n 0).length = 8 * n
  rw [List.length_replicate]

/-- The clause of A06: a Rice word whose value is `2^63`, in a stream long enough to hold it. -/
theorem witness_ResidualsAreStored_overflow :
    CellReady (zeros (2 ^ 32) 0) ∧ (Instr.riceWord 30 (2 ^ 34) 0).WellFormed ∧
    0 + (2 ^ 34 + 1 + 30) ≤ (zeros (2 ^ 32) 0).bitLength ∧
    (2 ^ 34 * 2 ^ 30 + 0) % 2 = 0 ∧ (2 : Int) ^ 63 - 1 < ((2 ^ 34 * 2 ^ 30 + 0 : Nat) : Int) / 2 :=
  ⟨cell_ready_zeros _, by decide, by rw [zeros_bitLength]; decide, by decide, by decide⟩

/-- Bit 0 of the residual of P3, in a subframe of order 2. -/
def atP3Residual : State :=
  { inSubframe 8 0 8 [0x44, 0x29, 0xFC, 0x6E, 0x0E] 0 with work := { Work.atReset with order := 2 } }

theorem witness_ResidualRoundTrip :
    p3Residual.legal 2 8 ∧ carries atP3Residual.stream atP3Residual.bitpos p3Residual.bits ∧ atP3Residual.work.order = 2 ∧
    atP3Residual.fault = false ∧ atP3Residual.work.ch ≤ 1 ∧ atP3Residual.fr.blocksize.toNat ≤ atP3Residual.capacity :=
  ⟨p3_residual_legal, carries_of (by decide +kernel), by decide, by decide, by decide, by decide⟩

/-- Two channels of one sample each under a channel assignment. -/
def pair (ca : BitVec 4) (a b : Cell) : State :=
  { holding [] 0 with fr := ⟨1, 44100, ca, 2, 8⟩, sb0 := [(0, a)], sb1 := [(0, b)] }

theorem witness_Decorrelation :
    (pair 1 5 2).fr.chAssign = 1 ∧ (pair 8 5 3).fr.chAssign = 8 ∧ (pair 9 3 2).fr.chAssign = 9 ∧
    (pair 10 3 3).fr.chAssign = 10 ∧ (pair 10 3 3).fr.blocksize.toNat ≤ (pair 10 3 3).capacity ∧
    (∀ i, i < (pair 8 5 3).fr.blocksize.toNat → inRange64 ((pair 8 5 3).sample 0 i - (pair 8 5 3).sample 1 i) = true) ∧
    inRange64 ((pair 8 (2 ^ 63) 1).sample 0 0 - (pair 8 (2 ^ 63) 1).sample 1 0) = false ∧
    inRange64 ((pair 9 (2 ^ 63 - 1) 1).sample 0 0 + (pair 9 (2 ^ 63 - 1) 1).sample 1 0) = false ∧
    inRange64 ((pair 10 (2 ^ 63) 2).sample 0 0 - (pair 10 (2 ^ 63) 2).sample 1 0 / 2) = false := by decide +kernel

theorem witness_DecorrelationInverts :
    (∀ i, i < (pair 8 5 3).fr.blocksize.toNat → (pair 8 5 3).sample 0 i = 5 ∧ (pair 8 5 3).sample 1 i = 5 - 2) ∧
    (∀ i, i < (pair 9 3 2).fr.blocksize.toNat → (pair 9 3 2).sample 0 i = 5 - 2 ∧ (pair 9 3 2).sample 1 i = 2) ∧
    (∀ i, i < (pair 10 3 3).fr.blocksize.toNat → (pair 10 3 3).sample 0 i = (5 + 2) / 2 ∧ (pair 10 3 3).sample 1 i = 5 - 2) ∧
    -2 ^ 62 ≤ (5 : Int) ∧ (5 : Int) < 2 ^ 62 := by decide +kernel

/-- The frame of P2 as an encoder chooses it. -/
def p2Plan : FramePlan where
  strategy := true
  bs := 6
  sr := 10
  ca := 10
  ss := 1
  number := .codedNumberK1C0 2 0x80
  blocksizeExt := 3
  rateExt := 0
  crc8 := 0
  sub0 := ⟨false, none, .verbatim [3, 3, -3, 0]⟩
  sub1 := some ⟨false, none, .fixed 1 [3] p2Residual⟩
  crc16 := 0xBEEF

/-- The frame of P2. -/
def p2Frame : List Byte := [0xFF, 0xF9, 0x6A, 0xA2, 0xC2, 0x80, 0x03, 0x00, 0x02, 0x03, 0x03, 0xFD, 0x00, 0x12, 0x01, 0x80,
  0x6B, 0xE0, 0x40, 0xBE, 0xEF]

theorem witness_FrameDecodesToItsSamples :
    ((afterH1 p2Frame).fault = false ∧ (afterH1 p2Frame).decState = .hasMetadata ∧ (p2Plan.ss = 0 → False) ∧
      p2Plan.sr ≠ 0 ∧ (afterH1 p2Frame).siValid = true) ∧
    p2Plan.legal (afterH1 p2Frame).capacity ∧
    p2Plan.produces (afterH1 p2Frame).si.bps.toNat (fun i => [5, 2, -3, 10].getD i 0) (fun i => [2, 5, -3, -10].getD i 0) ∧
    [false, false, false].length = padWidth ((afterH1 p2Frame).bitpos + (p2Plan.bits 16).length) ∧
    carries p2Frame 0 (p2Plan.bits 16 ++ [false, false, false] ++ encode (.crc16 p2Plan.crc16)) := by
  refine ⟨by decide, by unfold FramePlan.legal; decide, ?_, by decide +kernel, carries_of (by decide +kernel)⟩
  refine ⟨fun i => [3, 3, -3, 0].getD i 0, p2Side, ?_, ?_, by decide +kernel⟩
  · exact ⟨by decide, by decide, fun i => [3, 3, -3, 0].getD i 0,
      ⟨by decide, by decide, by decide⟩, by decide +kernel⟩
  · intro q h
    obtain rfl : ⟨false, none, .fixed 1 [3] p2Residual⟩ = q := by simpa [p2Plan] using h
    exact ⟨by decide, by decide, p2Side,
      ⟨by decide, by decide, by decide, p2_residual_legal, p2_predicted⟩, by decide +kernel⟩

theorem witness_MonoConstantFrame :
    (7 : BitVec 4).toNat ∉ [0, 15] ∧ (8 : BitVec 4).toNat ∉ [0, 6, 7] ∧ (9 : BitVec 4).toNat ∉ [0, 12, 13, 14, 15] ∧
    (2 : BitVec 3).toNat ∉ [0, 3] ∧ 12 = tableBps (2 : BitVec 3).toNat 0 ∧ tableBlocksize (8 : BitVec 4).toNat 0 ≤ 8192 ∧
    fitsSigned 12 (-1) = true ∧ [true, false, false, true].length = padWidth (0 + 56 + 12) ∧
    carries [0xFF, 0xF8, 0x89, 0x04, 0x01, 0x5A, 0x00, 0xFF, 0xF9, 0x12, 0x34] 0
      (encode (.framePreamble false 8 9 0 2) ++ encode (.codedNumberK000 1) ++ encode (.crc8 0x5A) ++
        encode (.subframeConstant false false) ++ encode (.constantBody 12 (-1)) ++ [true, false, false, true] ++
        encode (.crc16 0x1234)) := by
  exact ⟨by decide, by decide, by decide, by decide, by decide, by decide, by decide, by decide, carries_of (by decide +kernel)⟩

end Sys2Proof.Tests
end

section
/-! What a part of a command can do, said once for the whole machine. `Goes s t`: the run went on from `s` to `t`.
`Advances s t`: it went on, or it took a fault of the spec on the way. `Runs p s Q o`: the answer `o` of a part that
starts in `s` advances `s`, has `Q` if no fault was taken, and under `p` is no stop of the machine. -/

namespace Sys2Proof.Machine

/-- The run went on from `s` to `t`: it wrote only what an element or a body may write, kept `BITPOS` within `8·L` and
moved it upwards only (R22), and kept the sample buffer in its canonical form. -/
structure Goes (s t : State) : Prop where
  frame : t = { s with
    bitpos := t.bitpos, draw := t.draw, sb0 := t.sb0, sb1 := t.sb1, sbFree := t.sbFree, coef := t.coef,
    lpcPrec := t.lpcPrec, lpcShift := t.lpcShift, work := t.work }
  bitpos_mono : s.bitpos ≤ s.bitLength → s.bitpos ≤ t.bitpos ∧ t.bitpos ≤ s.bitLength
  memory_wf : Memory.wf s = true → Memory.wf t = true

/-- The run went on, or went on up to a state in which it took a fault of the spec. -/
def Advances (s t : State) : Prop := Goes s t ∨ ∃ u r, Goes s u ∧ t = u.scramble.latch r

/-- What the answer `o` of a part of a command that starts in `s` is held to. With `p := False` this is what holds of a
part wherever it runs; with `p := True` it also says that the machine does not stop. -/
structure Runs (p : Prop) (s : State) (Q : State → Prop) (o : Out) : Prop where
  /-- The frame of a part that goes on, or the fault entry behind such a part. -/
  advances : Post (Advances s) o
  /-- What the next part may rely on. -/
  ensures : Post (fun t => t.fault = false → Q t) o
  /-- No refusal and no cell beyond `N`. -/
  answers : p → Answers o

/-! ## Going on -/

section
variable {s t u : State}

theorem Goes.stream (h : Goes s t) : t.stream = s.stream := by rw [h.frame]
theorem Goes.capacity (h : Goes s t) : t.capacity = s.capacity := by rw [h.frame]
theorem Goes.fault (h : Goes s t) : t.fault = s.fault := by rw [h.frame]
theorem Goes.faultKind (h : Goes s t) : t.faultKind = s.faultKind := by rw [h.frame]
theorem Goes.faultCause (h : Goes s t) : t.faultCause = s.faultCause := by rw [h.frame]
theorem Goes.si (h : Goes s t) : t.si = s.si := by rw [h.frame]
theorem Goes.siValid (h : Goes s t) : t.siValid = s.siValid := by rw [h.frame]
theorem Goes.fr (h : Goes s t) : t.fr = s.fr := by rw [h.frame]
theorem Goes.frValid (h : Goes s t) : t.frValid = s.frValid := by rw [h.frame]
theorem Goes.bitLength (h : Goes s t) : t.bitLength = s.bitLength := State.bitLength_congr s t h.stream
theorem Goes.blocksize (h : Goes s t) : t.blocksize = s.blocksize := congrArg (fun f => f.blocksize.toNat) h.fr

theorem Goes.refl (s : State) : Goes s s := ⟨rfl, fun h => ⟨le_refl _, h⟩, id⟩

theorem Goes.trans (h₁ : Goes s t) (h₂ : Goes t u) : Goes s u where
  frame := h₂.frame.trans (by rw [h₁.frame])
  bitpos_mono h := by
    obtain ⟨hst, ht⟩ := h₁.bitpos_mono h
    obtain ⟨htu, hu⟩ := h₂.bitpos_mono (h₁.bitLength ▸ ht)
    exact ⟨hst.trans htu, h₁.bitLength ▸ hu⟩
  memory_wf h := h₂.memory_wf (h₁.memory_wf h)

theorem goes_setWork (s : State) (w : Work) : Goes s (s.setWork w) := ⟨rfl, fun h => ⟨le_refl _, h⟩, id⟩
theorem goes_setLpcPrec (s : State) (v : Nat) : Goes s (s.setLpcPrec v) := ⟨rfl, fun h => ⟨le_refl _, h⟩, id⟩
theorem goes_setLpcShift (s : State) (v : Int) : Goes s (s.setLpcShift v) := ⟨rfl, fun h => ⟨le_refl _, h⟩, id⟩
theorem goes_setCoef (s : State) (j : Nat) (v : Int) : Goes s (s.setCoef j v) := ⟨rfl, fun h => ⟨le_refl _, h⟩, id⟩
theorem goes_draw (s : State) (k : Nat) : Goes s { s with draw := k } := ⟨rfl, fun h => ⟨le_refl _, h⟩, id⟩
theorem goes_finish (s : State) : Goes s s.finish := ⟨rfl, fun h => ⟨le_refl _, h⟩, id⟩
theorem goes_clearSamples (s : State) : Goes s s.clearSamples := ⟨rfl, fun h => ⟨le_refl _, h⟩, fun _ => rfl⟩

theorem goes_setBitpos {p : Nat} (h : s.bitpos ≤ s.bitLength → s.bitpos ≤ p ∧ p ≤ s.bitLength) :
    Goes s (s.setBitpos p) := ⟨rfl, h, id⟩

/-- The bits up to the next byte boundary are there, since the stream is whole bytes (R133). -/
theorem goes_align (s : State) : Goes s s.align :=
  goes_setBitpos fun h => by simp only [padWidth, State.bitLength] at h ⊢; omega

theorem goes_setChannel {c i : Nat} (v : Cell) (h : i < s.capacity) :
    Goes s (s.setChannel c (insertCell i v (s.channel c))) where
  frame := by unfold State.setChannel; split <;> rfl
  bitpos_mono hb := by simpa using hb
  memory_wf hw := by
    have hpost := writeSample_keeps_wf c i v.toInt s hw
    rwa [writeSample_ok h, post_next, BitVec.ofInt_toInt] at hpost

end

/-! ## Advancing -/

theorem Advances.trans {s t u : State} (h₁ : Goes s t) (h₂ : Advances t u) : Advances s u := by
  rcases h₂ with h | ⟨v, r, h, rfl⟩
  · exact .inl (h₁.trans h)
  · exact .inr ⟨v, r, h₁.trans h, rfl⟩

theorem Advances.goes {s t : State} (h : Advances s t) (ht : t.fault = false) : Goes s t := by
  rcases h with h | ⟨u, r, -, rfl⟩
  · exact h
  · cases ht

/-! ## The rules of `Runs` -/

section
variable {p : Prop} {s u : State} {Q R : State → Prop} {o : Out}

theorem Runs.next (hg : Goes s u) (hq : Q u) : Runs p s Q (.next u) where
  advances := (post_next _ _).2 (.inl hg)
  ensures := (post_next _ _).2 fun _ => hq
  answers _ := answers_next u

theorem Runs.raise (r : Raise) (s : State) : Runs p s Q (raise r s) where
  advances := post_raise r s (.inr ⟨s, r, .refl s, rfl⟩)
  ensures := post_raise r s fun h => by cases h
  answers _ := answers_raise r s

/-- A part that starts where an earlier part got to. -/
theorem Runs.after (hg : Goes s u) (h : Runs p u Q o) : Runs p s Q o where
  advances := h.advances.mono fun _ ht => .trans hg ht
  ensures := h.ensures
  answers := h.answers

theorem Runs.mono (h : Runs p s Q o) (hq : ∀ t, Goes s t → Q t → R t) : Runs p s R o where
  advances := h.advances
  ensures := (h.advances.and h.ensures).mono fun t ⟨ha, he⟩ ht => hq t (ha.goes ht) (he ht)
  answers := h.answers

theorem Runs.any (h : Runs p s Q o) : Runs p s (fun _ => True) o := h.mono fun _ _ _ => trivial

/-- After a part that took no fault the next part starts, in a state of which the first part tells. -/
theorem Runs.seq {f : State → Out} (ho : Runs p s Q o) (hf : ∀ t, Goes s t → Q t → Runs p t R (f t)) :
    Runs p s R (seq o f) := by
  have hmid := ho.advances.and ho.ensures
  have hnext : ∀ t, (Advances s t ∧ (t.fault = false → Q t)) → t.fault = false → Goes s t ∧ Runs p t R (f t) :=
    fun t ⟨ha, he⟩ ht => ⟨ha.goes ht, hf t (ha.goes ht) (he ht)⟩
  constructor
  · exact post_seq hmid (fun t h _ => h.1) fun t h ht =>
      (hnext t h ht).2.advances.mono fun _ hv => .trans (hnext t h ht).1 hv
  · exact post_seq hmid (fun t _ ht hf => by rw [ht] at hf; cases hf) fun t h ht => (hnext t h ht).2.ensures
  · exact fun hp => answers_seq (ho.answers hp) hmid fun t h ht => (hnext t h ht).2.answers hp

/-- A loop: each round takes `I i` to `I (i + 1)`. -/
theorem Runs.forRange {I : Nat → State → Prop} {f : Nat → State → Out} (count start : Nat) (s : State) (h : I start s)
    (hf : ∀ i t, start ≤ i → i < start + count → Goes s t → I i t → Runs p t (I (i + 1)) (f i t)) :
    Runs p s (I (start + count)) (forRange count start f s) := by
  induction count generalizing start s with
  | zero => exact .next (.refl s) h
  | succ count ih =>
    rw [forRange_succ]
    refine .seq (hf start s (le_refl _) (by omega) (.refl s) h) fun t hg ht => ?_
    have hrest := ih (start + 1) t ht fun i u h₁ h₂ hgu hi => hf i u (by omega) (by omega) (hg.trans hgu) hi
    rwa [show start + 1 + count = start + (count + 1) by omega] at hrest

/-- A loop of which only the frame matters. -/
theorem Runs.forRange_any {f : Nat → State → Out} {count start : Nat}
    (hf : ∀ i t, start ≤ i → i < start + count → Goes s t → Runs p t (fun _ => True) (f i t)) :
    Runs p s (fun _ => True) (Machine.forRange count start f s) :=
  .forRange (I := fun _ _ => True) count start s trivial fun i t h₁ h₂ hg _ => hf i t h₁ h₂ hg

theorem Runs.live {f : State → Out} (hf : Runs p s Q (f s)) : Runs p s Q (live s f) where
  advances := post_live (fun _ => .inl (.refl s)) fun _ => hf.advances
  ensures := post_live (fun h h' => by rw [h] at h'; cases h') fun _ => hf.ensures
  answers hp := answers_live fun _ => hf.answers hp

/-- The bits are there and the part goes on behind them, or P11. -/
theorem Runs.consume {n : Nat} {f : State → Out} (hf : Runs p (s.setBitpos (s.bitpos + n)) Q
    (f (s.setBitpos (s.bitpos + n)))) : Runs p s Q (consume n s f) := by
  by_cases h : s.bitpos + n ≤ s.bitLength
  · rw [consume_ok f h]
    exact .after (goes_setBitpos fun _ => ⟨by omega, h⟩) hf
  · rw [consume_short f (by omega)]
    exact .raise _ _

theorem Runs.element {n : Nat} {f : State → Out} (hf : Runs p (s.setBitpos (s.bitpos + n)) Q
    (f (s.setBitpos (s.bitpos + n)))) : Runs p s Q (element n s f) := .live (.consume hf)

theorem Runs.withUint {n : Nat} {f : Nat → State → Out} (hf : ∀ v q, Runs p (s.setBitpos q) Q (f v (s.setBitpos q))) :
    Runs p s Q (withUint n s f) := by
  unfold Machine.withUint
  split
  · exact hf 0 s.bitpos
  · exact .consume (hf _ _)

theorem Runs.withInt {n : Nat} {f : Int → State → Out} (hf : ∀ v q, Runs p (s.setBitpos q) Q (f v (s.setBitpos q))) :
    Runs p s Q (withInt n s f) := .withUint fun _ q => hf _ q

/-- A write to a cell: the machine stops only if the cell does not exist. -/
theorem Runs.writeSample {c i : Nat} {v : Int} (hp : p → i < s.capacity) :
    Runs p s (fun t => t.work = s.work) (writeSample c i v s) := by
  by_cases h : i < s.capacity
  · rw [writeSample_ok h]
    exact .next (goes_setChannel _ h) (by simp)
  · rw [writeSample_outside (by omega)]
    exact ⟨post_fault _ _, post_fault _ _, fun hp' => absurd (hp hp') h⟩

theorem Runs.writeI64 {c i : Nat} {v : Int} (hp : p → i < s.capacity) :
    Runs p s (fun t => t.work = s.work) (writeI64 c i v s) := by
  unfold Machine.writeI64
  split
  · exact .raise _ _
  · exact .writeSample hp

end

end Sys2Proof.Machine
end

section
/-! What the leaves of the stream grammar do: the working values each kind leaves behind, and where a leaf needs a cell
that exists. -/

namespace Sys2Proof.Machine

/-! ## The frame header's values on their way -/

/-- The blocksize is one that R112 allows, or an extension brings it (R97). -/
def BlocksizeReady (w : Work) : Prop :=
  w.bsCode = 6 ∨ w.bsCode = 7 ∨ 1 ≤ w.blocksize ∧ w.blocksize ≤ 65536

/-- The channel assignment is one that R115 and R192 allow, with its number of channels. -/
def ChannelsReady (w : Work) : Prop := w.caCode.toNat ∈ [0, 1, 8, 9, 10] ∧ 1 ≤ w.nch ∧ w.nch ≤ 2

end Sys2Proof.Machine

namespace Sys2Proof

open Machine

/-! ## What a kind leaves, what it needs -/

/-- The kinds that the sequencer decodes and runs as one element; the three bodies made of parts are none. -/
def Kind.isLeaf : Kind → Bool
  | .verbatimBody | .fixedBody | .lpcBody => false
  | _ => true

/-- The leaves that write neither a cell nor `SI_*`. -/
def Kind.isPlain : Kind → Bool
  | .streaminfoBody | .constantBody | .verbatimBody | .fixedBody | .lpcBody | .rawResidual | .riceWord => false
  | _ => true

/-- What an element of a kind, run in `s`, leaves in the working registers, as far as the commands rely on it. -/
def Kind.Leaves (k : Kind) (s : State) (w : Work) : Prop :=
  match k with
  | .codedNumber | .crc8 => w = s.work
  | .framePreamble => BlocksizeReady w ∧ ChannelsReady w
  | .blocksizeExt8 | .blocksizeExt16 => ∃ n, 1 ≤ n ∧ n ≤ 65536 ∧ w = { s.work with blocksize := n }
  | .rateExt8Khz | .rateExt16Hz | .rateExt16Dhz => ∃ r, w = { s.work with rate := r }
  | .residualHdr => w.pcount * w.psize ≤ s.blocksize
  | .param4 | .param5 => ∃ v e, w = { s.work with param := v, escaped := e }
  | .escapeWidth => ∃ n, w = { s.work with bitCount := n }
  | .rawResidual | .riceWord => w = { s.work with index := s.work.index + 1 }
  | _ => True

/-- The cells that an element of a kind writes exist (R68). -/
def Kind.Fits (k : Kind) (s : State) : Prop :=
  match k with
  | .constantBody | .verbatimBody | .fixedBody | .lpcBody => s.blocksize ≤ s.capacity
  | .rawResidual | .riceWord => s.work.index < s.capacity
  | _ => True

end Sys2Proof

namespace Sys2Proof.Machine

section
variable {p : Prop}

/-! ## The codes of the frame header -/

theorem blocksizeOf_samples {c n : Nat} (hc : c < 16) (h0 : c ≠ 0) (h : blocksizeOf c = .samples n) :
    1 ≤ n ∧ n ≤ 65536 := by
  interval_cases c <;> simp [blocksizeOf] at h h0 <;> omega

theorem blocksizeOf_extension {c width : Nat} (h : blocksizeOf c = .extension width) : c = 6 ∨ c = 7 := by
  unfold blocksizeOf at h
  split_ifs at h with h₁ h₅ h₆ h₇
  · exact .inl h₆
  · exact .inr h₇

theorem blocksizeCode_runs {c : Nat} (hc : c < 16) (s : State) :
    Runs p s (fun t => BlocksizeReady t.work) (blocksizeCode c s) := by
  unfold blocksizeCode
  cases hf : bsCodeFault c with
  | some r => exact .raise r s
  | none =>
    have h0 : c ≠ 0 := by rintro rfl; cases hf
    cases hb : blocksizeOf c with
    | samples n => exact .next (goes_setWork _ _) (.inr (.inr (blocksizeOf_samples hc h0 hb)))
    | extension width =>
      refine .next (goes_setWork _ _) ?_
      rcases blocksizeOf_extension hb with rfl | rfl
      · exact .inl rfl
      · exact .inr (.inl rfl)

theorem rateCode_runs (c : Nat) (s : State) :
    Runs p s (fun t => t.work = { s.work with srCode := t.work.srCode, rate := t.work.rate }) (rateCode c s) := by
  unfold rateCode withSiRate
  cases srCodeFault c with
  | some r => exact .raise r s
  | none =>
    cases rateOf c with
    | streaminfo =>
      simp only
      split
      · exact .next (goes_setWork _ _) rfl
      · exact .next ((goes_draw s _).trans (goes_setWork _ _)) rfl
    | hertz n => exact .next (goes_setWork _ _) rfl
    | extension width scale => exact .next (goes_setWork _ _) rfl

/-- The codes that R192 does not reject. -/
theorem caCode_legal {c : Nat} (hc : c < 16) (h : caCodeFault c = none) : c ∈ [0, 1, 8, 9, 10] := by
  unfold caCodeFault at h
  split_ifs at h with h₁ h₂
  simp only [Bool.and_eq_true, decide_eq_true_eq] at h₂
  simp only [List.mem_cons, List.not_mem_nil, or_false]
  omega

theorem channelCode_runs {c : Nat} (hc : c < 16) (s : State) :
    Runs p s (fun t => ChannelsReady t.work ∧ t.work = { s.work with caCode := t.work.caCode, nch := t.work.nch })
      (channelCode c s) := by
  unfold channelCode
  cases hf : caCodeFault c with
  | some r => exact .raise r s
  | none =>
    refine .next (goes_setWork _ _) ⟨⟨?_, ?_⟩, rfl⟩
    · show (BitVec.ofNat 4 c).toNat ∈ [0, 1, 8, 9, 10]
      rw [BitVec.toNat_ofNat, Nat.mod_eq_of_lt hc]
      exact caCode_legal hc hf
    · show 1 ≤ channelsOf c ∧ channelsOf c ≤ 2
      unfold channelsOf
      split <;> decide

theorem sampleSizeCode_runs (c : Nat) (s : State) :
    Runs p s (fun t => t.work = { s.work with ssCode := t.work.ssCode, bps := t.work.bps }) (sampleSizeCode c s) := by
  unfold sampleSizeCode withSiBps
  cases ssCodeFault c with
  | some r => exact .raise r s
  | none =>
    cases sampleSizeOf c with
    | none =>
      simp only
      split
      · exact .next (goes_setWork _ _) rfl
      · exact .next ((goes_draw s _).trans (goes_setWork _ _)) rfl
    | some n => exact .next (goes_setWork _ _) rfl

/-- The four codes take effect in stream order, and none undoes what an earlier one gave (R180). -/
theorem framePreamble_runs (strategy : Bool) (bs sr ca : BitVec 4) (ss : BitVec 3) (s : State) :
    Runs p s (fun t => BlocksizeReady t.work ∧ ChannelsReady t.work) (execFramePreamble strategy bs sr ca ss s) := by
  refine .element (.seq (blocksizeCode_runs bs.isLt _) fun t₁ _ hbs => ?_)
  refine .seq (rateCode_runs sr.toNat t₁) fun t₂ _ hsr => ?_
  refine .seq (channelCode_runs ca.isLt t₂) fun t₃ _ ⟨hready, hca⟩ => ?_
  refine (sampleSizeCode_runs ss.toNat t₃).mono fun t₄ _ hss => ?_
  rw [hss]
  refine ⟨?_, hready⟩
  show BlocksizeReady { t₃.work with ssCode := _, bps := _ }
  rw [hca, hsr]
  exact hbs

/-! ## Elements that only read -/

theorem discarded_runs (n : Nat) (s : State) : Runs p s (fun t => t.work = s.work) (element n s .next) :=
  .element (.next (.refl _) rfl)

theorem skipBytes_runs (n : Nat) (s : State) : Runs p s (fun _ => True) (skipBytes n s) :=
  .consume (.next (.refl _) trivial)

theorem padding_runs (width v : Nat) (s : State) : Runs p s (fun _ => True) (execPadding width v s) :=
  .live (f := fun s => .next s.align) (.next (goes_align s) trivial)

theorem residualHeader_runs (method po : Nat) (s : State) :
    Runs p s (fun t => t.work.pcount * t.work.psize ≤ s.blocksize) (residualHeader method po s) := by
  refine .element ?_
  simp only
  split
  · exact .raise _ _
  · split
    · exact .raise _ _
    · exact .next (goes_setWork _ _) (Nat.mul_div_le _ _)

/-! ## Elements that write cells -/

theorem storeResidual_runs {v : Int} {s : State} (hp : p → s.work.index < s.capacity) :
    Runs p s (fun t => t.work = { s.work with index := s.work.index + 1 }) (storeResidual v s) := by
  refine .seq (.writeI64 hp) fun t _ ht => .next (goes_setWork _ _) ?_
  show { t.work with index := t.work.index + 1 } = _
  rw [ht]

/-- A loop that writes one cell in each round, all of them below `N`. -/
theorem cellLoop_runs {f : Nat → State → Out} {count start : Nat} {s : State} (hp : p → start + count ≤ s.capacity)
    (hf : ∀ i t, (p → i < t.capacity) → Runs p t (fun _ => True) (f i t)) :
    Runs p s (fun _ => True) (forRange count start f s) :=
  .forRange_any fun i t _ hi hg => hf i t fun h => by rw [hg.capacity]; have := hp h; omega

theorem constantBody_runs {width : Nat} {v : Int} {s : State} (hp : p → s.blocksize ≤ s.capacity) :
    Runs p s (fun _ => True) (execConstantBody width v s) :=
  .element (cellLoop_runs (by simpa [State.blocksize] using hp) fun _ _ h => (Runs.writeSample h).any)

/-! ## Every leaf -/

/-- Every leaf but the STREAMINFO body advances the state, leaves what its kind says, and stops the machine only for want
of a cell. -/
theorem execLeaf_runs {i : Instr} {k : Kind} {s : State} (hk : i.kind? = some k) (hl : k.isLeaf = true)
    (hsi : k ≠ .streaminfoBody) (hp : p → k.Fits s) : Runs p s (fun t => k.Leaves s t.work) (execLeaf i s) := by
  match i, hk with
  | .marker, rfl | .crc16 _, rfl => exact (discarded_runs _ s).any
  | .codedNumberK000 _, rfl | .codedNumberK080 _, rfl | .codedNumberK1C0 _ _, rfl | .codedNumberK2E0 _ _, rfl
  | .codedNumberK3F0 _ _, rfl | .codedNumberK4F8 _ _, rfl | .codedNumberK5FC _ _, rfl | .codedNumberK6FE _, rfl
  | .codedNumberK7FF _, rfl | .crc8 _, rfl => exact discarded_runs _ s
  | .metaStreaminfo _ _, rfl | .metaSkip6 _ _ _, rfl | .metaSkip5 _ _ _, rfl | .metaSkip4 _ _ _, rfl
  | .metaSkip3 _ _ _, rfl | .metaSkip2 _ _ _, rfl | .metaSkip1 _ _ _, rfl | .metaSkip0 _ _, rfl =>
    exact .element (.next (goes_setWork _ _) trivial)
  | .skippedBody _, rfl => exact .live (skipBytes_runs _ s)
  | .framePreamble strategy _ _ _ _, rfl => exact framePreamble_runs strategy _ _ _ _ s
  | .bsCode0, rfl | .bsCode1, rfl | .bsCode2, rfl | .bsCode3, rfl | .bsCode4, rfl | .bsCode5, rfl | .bsCode6, rfl
  | .bsCode7, rfl | .bsCode8, rfl | .bsCode9, rfl | .bsCode10, rfl | .bsCode11, rfl | .bsCode12, rfl
  | .bsCode13, rfl | .bsCode14, rfl | .bsCode15, rfl =>
    exact .element ((blocksizeCode_runs (by decide) _).any)
  | .srCode0, rfl | .srCode1, rfl | .srCode2, rfl | .srCode3, rfl | .srCode4, rfl | .srCode5, rfl | .srCode6, rfl
  | .srCode7, rfl | .srCode8, rfl | .srCode9, rfl | .srCode10, rfl | .srCode11, rfl | .srCode12, rfl
  | .srCode13, rfl | .srCode14, rfl | .srCode15, rfl => exact .element ((rateCode_runs _ _).any)
  | .caCode0, rfl | .caCode1, rfl | .caCode2, rfl | .caCode3, rfl | .caCode4, rfl | .caCode5, rfl | .caCode6, rfl
  | .caCode7, rfl | .caCode8, rfl | .caCode9, rfl | .caCode10, rfl | .caCode11, rfl | .caCode12, rfl
  | .caCode13, rfl | .caCode14, rfl | .caCode15, rfl =>
    exact .element ((channelCode_runs (by decide) _).any)
  | .ssCode0, rfl | .ssCode1, rfl | .ssCode2, rfl | .ssCode3, rfl | .ssCode4, rfl | .ssCode5, rfl | .ssCode6, rfl
  | .ssCode7, rfl => exact .element ((sampleSizeCode_runs _ _).any)
  | .blocksizeExt8 v, rfl | .blocksizeExt16 v, rfl =>
    exact .element (.next (goes_setWork _ _) ⟨v.toNat + 1, by omega, by have := v.isLt; omega, rfl⟩)
  | .rateExt8Khz _, rfl | .rateExt16Hz _, rfl | .rateExt16Dhz _, rfl =>
    exact .element (.next (goes_setWork _ _) ⟨_, rfl⟩)
  | .subframeConstant _ _, rfl | .subframeVerbatim _ _, rfl | .subframeFixed0 _ _, rfl | .subframeFixed1 _ _, rfl
  | .subframeFixed2 _ _, rfl | .subframeFixed3 _ _, rfl | .subframeFixed4 _ _, rfl | .subframeLpc _ _ _, rfl =>
    exact .element (.next (goes_setWork _ _) trivial)
  | .subframeReserved2To3 _ _, rfl | .subframeReserved4To7 _ _, rfl | .subframeReserved13 _, rfl
  | .subframeReserved14To15 _ _, rfl | .subframeReserved16To31 _ _, rfl => exact .element (.raise _ _)
  | .wastedUnary _, rfl => exact .element (.next (goes_setWork _ _) trivial)
  | .constantBody _ _, rfl => exact constantBody_runs hp
  | .residualMethod0 _, rfl | .residualMethod1 _, rfl => exact residualHeader_runs _ _ s
  | .residualMethod2, rfl | .residualMethod3, rfl => exact .element (.raise _ _)
  | .param4RiceK0, rfl | .param4RiceK1, rfl | .param4RiceK2, rfl | .param4RiceK3, rfl | .param4RiceK4, rfl
  | .param4RiceK5, rfl | .param4RiceK6, rfl | .param4RiceK7, rfl | .param4RiceK8, rfl | .param4RiceK9, rfl
  | .param4RiceK10, rfl | .param4RiceK11, rfl | .param4RiceK12, rfl | .param4RiceK13, rfl | .param4RiceK14, rfl
  | .param5RiceK0, rfl | .param5RiceK1, rfl | .param5RiceK2, rfl | .param5RiceK3, rfl | .param5RiceK4, rfl
  | .param5RiceK5, rfl | .param5RiceK6, rfl | .param5RiceK7, rfl | .param5RiceK8, rfl | .param5RiceK9, rfl
  | .param5RiceK10, rfl | .param5RiceK11, rfl | .param5RiceK12, rfl | .param5RiceK13, rfl | .param5RiceK14, rfl
  | .param5RiceK15, rfl | .param5RiceK16, rfl | .param5RiceK17, rfl | .param5RiceK18, rfl | .param5RiceK19, rfl
  | .param5RiceK20, rfl | .param5RiceK21, rfl | .param5RiceK22, rfl | .param5RiceK23, rfl | .param5RiceK24, rfl
  | .param5RiceK25, rfl | .param5RiceK26, rfl | .param5RiceK27, rfl | .param5RiceK28, rfl | .param5RiceK29, rfl
  | .param5RiceK30, rfl | .param4Escape, rfl | .param5Escape, rfl =>
    exact .element (.next (goes_setWork _ _) ⟨_, _, rfl⟩)
  | .escapeWidth _, rfl => exact .element (.next (goes_setWork _ _) ⟨_, rfl⟩)
  | .rawResidual _ _, rfl | .riceWord _ _ _, rfl => exact .element (storeResidual_runs hp)
  | .padding width v, rfl => exact padding_runs width v s
  | .streaminfoBody _ _ _ _ _ _ _ _ _, rfl => exact absurd rfl hsi
  | .verbatimBody, rfl | .fixedBody _, rfl | .lpcBody _, rfl => cases hl

end
end Sys2Proof.Machine
end

section
/-! The decoder answers an element of the kind it was asked for. -/

namespace Sys2Proof

/-- What was read, if anything was, is an element of kind `k`. -/
def Yields (k : Kind) (e : Except Raise Instr) : Prop := ∀ i, e = .ok i → i.kind? = some k

section
variable {k : Kind}

theorem yields_error (r : Raise) : Yields k (.error r) := fun _ h => by cases h

theorem yields_ok {i : Instr} (h : i.kind? = some k) : Yields k (.ok i) := fun _ hi => by cases hi; exact h

theorem yields_whole (n : Nat) (b : BitSrc) {i : Instr} (h : i.kind? = some k) : Yields k (whole n b i) := by
  unfold whole
  split
  · exact yields_ok h
  · exact yields_error _

end

/-! ## The rows of each code table -/

theorem kind_metaRow (last : Bool) (type : Nat) (length : BitVec 24) :
    (metaRow last type length).kind? = some .metaHdr := by
  unfold metaRow; split_ifs <;> rfl

theorem kind_bsCodeRow (c : Nat) : (bsCodeRow c).kind? = some .bsCode := by unfold bsCodeRow; split <;> rfl

theorem kind_srCodeRow (c : Nat) : (srCodeRow c).kind? = some .srCode := by unfold srCodeRow; split <;> rfl

theorem kind_caCodeRow (c : Nat) : (caCodeRow c).kind? = some .caCode := by unfold caCodeRow; split <;> rfl

theorem kind_ssCodeRow (c : Nat) : (ssCodeRow c).kind? = some .ssCode := by unfold ssCodeRow; split <;> rfl

theorem kind_param4Row (c : Nat) : (param4Row c).kind? = some .param4 := by unfold param4Row; split <;> rfl

theorem kind_param5Row (c : Nat) : (param5Row c).kind? = some .param5 := by unfold param5Row; split <;> rfl

theorem kind_subframeReservedRow (zero : Bool) (type : Nat) :
    (subframeReservedRow zero type).kind? = some .subframeHdr := by
  unfold subframeReservedRow; split_ifs <;> rfl

theorem kind_subframeRow (zero : Bool) (type : Nat) (wasted : Bool) :
    (subframeRow zero type wasted).kind? = some .subframeHdr := by
  unfold subframeRow; split_ifs <;> rfl

/-! ## The elements with a decoder of their own -/

theorem yields_marker (b : BitSrc) : Yields .marker (decodeMarkerElem b) := by
  unfold decodeMarkerElem
  split_ifs
  · exact yields_error _
  · exact yields_ok rfl
  · exact yields_error _

theorem yields_preamble (b : BitSrc) : Yields .framePreamble (decodePreamble b) := by
  unfold decodePreamble
  split_ifs
  · exact yields_ok rfl
  · exact yields_error _

theorem yields_streaminfo (n : Nat) (b : BitSrc) : Yields .streaminfoBody (decodeStreaminfo n b) := by
  unfold decodeStreaminfo
  split_ifs
  · exact yields_ok rfl
  · exact yields_error _

theorem yields_codedNumber (b : BitSrc) : Yields .codedNumber (decodeCodedNumber b) := by
  unfold decodeCodedNumber
  split
  · exact yields_error _
  · simp only
    split_ifs
    · exact yields_ok rfl
    · exact yields_ok rfl
    all_goals exact yields_whole _ b rfl

theorem yields_subframeHdr (b : BitSrc) : Yields .subframeHdr (decodeSubframeHdr b) := by
  unfold decodeSubframeHdr
  split_ifs
  · exact yields_error _
  · exact yields_ok (kind_subframeReservedRow _ _)
  · exact yields_whole _ b (kind_subframeRow _ _ _)

theorem yields_residualHdr (b : BitSrc) : Yields .residualHdr (decodeResidualHdr b) := by
  unfold decodeResidualHdr
  split_ifs
  · exact yields_error _
  · exact yields_ok rfl
  · exact yields_ok rfl
  · exact yields_whole _ b rfl
  · exact yields_whole _ b rfl

theorem yields_wastedUnary (b : BitSrc) : Yields .wastedUnary (decodeWastedUnary b) := by
  unfold decodeWastedUnary
  split
  · exact yields_error _
  · exact yields_ok rfl

theorem yields_riceWord (n : Nat) (b : BitSrc) : Yields .riceWord (decodeRiceWord n b) := by
  unfold decodeRiceWord
  split
  · exact yields_error _
  · exact yields_whole _ b rfl

/-! ## Every kind -/

theorem yields_decodeElem (c : ElemCtx) (k : Kind) (b : BitSrc) : Yields k (decodeElem c k b) := by
  cases k with
  | marker => exact yields_marker b
  | metaHdr => exact yields_whole _ b (kind_metaRow _ _ _)
  | streaminfoBody => exact yields_streaminfo _ b
  | framePreamble => exact yields_preamble b
  | bsCode => exact yields_whole _ b (kind_bsCodeRow _)
  | srCode => exact yields_whole _ b (kind_srCodeRow _)
  | caCode => exact yields_whole _ b (kind_caCodeRow _)
  | ssCode => exact yields_whole _ b (kind_ssCodeRow _)
  | codedNumber => exact yields_codedNumber b
  | subframeHdr => exact yields_subframeHdr b
  | wastedUnary => exact yields_wastedUnary b
  | verbatimBody | fixedBody | lpcBody => exact yields_ok rfl
  | residualHdr => exact yields_residualHdr b
  | param4 => exact yields_whole _ b (kind_param4Row _)
  | param5 => exact yields_whole _ b (kind_param5Row _)
  | riceWord => exact yields_riceWord _ b
  | skippedBody | blocksizeExt8 | blocksizeExt16 | rateExt8Khz | rateExt16Hz | rateExt16Dhz | crc8 | constantBody
  | escapeWidth | rawResidual | padding | crc16 => exact yields_whole _ b rfl

end Sys2Proof
end

section
/-! The sequencer, the bodies made of parts and the frame: each advances the state, and none stops the machine where
the block fits the sample buffer. -/

namespace Sys2Proof.Machine

section
variable {p : Prop}

/-! ## The sequencer -/

/-- A leaf decoded at `BITPOS` and run: what its kind leaves, or the fault of reading it. -/
theorem runLeaf_runs {k : Kind} {s : State} (hl : k.isLeaf = true) (hsi : k ≠ .streaminfoBody) (hp : p → k.Fits s) :
    Runs p s (fun t => k.Leaves s t.work) (runLeaf k s) := by
  refine .live ?_
  cases hd : s.decodeAt k with
  | error r => exact .raise r s
  | ok i => exact execLeaf_runs (yields_decodeElem _ k _ i hd) hl hsi hp

theorem plainLeaf_runs {k : Kind} (h : k.isPlain = true) (s : State) :
    Runs p s (fun t => k.Leaves s t.work) (runLeaf k s) :=
  runLeaf_runs (by cases k <;> simp_all [Kind.isPlain, Kind.isLeaf]) (by rintro rfl; cases h)
    fun _ => by cases k <;> simp_all [Kind.isPlain, Kind.Fits]

/-! ## Runs of samples -/

theorem readSamples_runs {count : Nat} {s : State} (hp : p → count ≤ s.capacity) :
    Runs p s (fun _ => True) (readSamples count s) :=
  cellLoop_runs (by simpa using hp) fun i t h => .withInt fun v q =>
    (Runs.writeSample (s := t.setBitpos q) h).any

theorem restore_runs {order : Nat} {coefs : List Int} {shift : Nat} {s : State} (ho : order ≤ s.blocksize)
    (hp : p → s.blocksize ≤ s.capacity) : Runs p s (fun _ => True) (restore order coefs shift s) := by
  refine cellLoop_runs (fun h => by have := hp h; omega) fun i t h => ?_
  unfold restoreAt
  split
  · exact .raise _ _
  · exact (Runs.writeI64 h).any

/-! ## The residual -/

/-- `count` residuals go to the cells from `index` up; they leave the partition size. -/
theorem residuals_runs {k : Kind} (hk : k = .rawResidual ∨ k = .riceWord) (count : Nat) {s : State}
    (hp : p → ∀ i, i < count → s.work.index + i < s.capacity) :
    Runs p s (fun t => t.work.psize = s.work.psize) (residuals k count s) := by
  have hround : ∀ t : State, (p → t.work.index < t.capacity) →
      Runs p t (fun u => u.work = { t.work with index := t.work.index + 1 }) (runLeaf k t) := by
    rcases hk with rfl | rfl
    · exact fun t ht => runLeaf_runs (k := .rawResidual) rfl (by decide) ht
    · exact fun t ht => runLeaf_runs (k := .riceWord) rfl (by decide) ht
  refine (Runs.forRange (I := fun i t => t.work.index = s.work.index + i ∧ t.work.psize = s.work.psize) count 0 s
    ⟨rfl, rfl⟩ fun i t _ hi hg ⟨hindex, hpsize⟩ => ?_).mono fun t _ h => h.2
  refine (hround t fun h => ?_).mono fun u _ hu => ?_
  · rw [hindex, hg.capacity]
    exact hp h i (by omega)
  · rw [hu]
    exact ⟨by show t.work.index + 1 = _; omega, hpsize⟩

/-- A partition's parameter, of 4 or of 5 bits by the method. -/
theorem partitionParam_runs (s : State) :
    Runs p s (fun t => ∃ v e, t.work = { s.work with param := v, escaped := e })
      (runLeaf (if s.work.method = 0 then .param4 else .param5) s) := by
  split
  · exact plainLeaf_runs (k := .param4) rfl _
  · exact plainLeaf_runs (k := .param5) rfl _

/-- A partition that ends within the buffer. -/
theorem partition_runs {order i : Nat} {s : State} (hp : p → (i + 1) * s.work.psize ≤ s.capacity) :
    Runs p s (fun t => t.work.psize = s.work.psize) (partition order i s) := by
  unfold partition
  generalize (if i = 0 then order else i * s.work.psize) = start
  refine .after (goes_setWork s { s.work with index := start })
    (.seq (partitionParam_runs _) fun t hg ⟨v, e, ht⟩ => ?_)
  have hcells : p → ∀ j, j < (i + 1) * s.work.psize - start → start + j < t.capacity := fun h j hj => by
    have hend := hp h
    rw [hg.capacity]
    show start + j < s.capacity
    omega
  split
  · refine .seq (plainLeaf_runs (k := .escapeWidth) rfl _) fun u hgu ⟨n, hu⟩ => ?_
    refine (residuals_runs (.inl rfl) _ fun h j hj => ?_).mono fun w _ hw => ?_
    · rw [hu, ht, hgu.capacity]
      exact hcells h j hj
    · rw [hw, hu, ht]; rfl
  · refine (residuals_runs (.inr rfl) _ fun h j hj => ?_).mono fun w _ hw => ?_
    · rw [ht]
      exact hcells h j hj
    · rw [hw, ht]; rfl

theorem decodeResidual_runs {order : Nat} {s : State} (hp : p → s.blocksize ≤ s.capacity) :
    Runs p s (fun _ => True) (decodeResidual order s) := by
  refine .seq (plainLeaf_runs (k := .residualHdr) rfl s) fun t hg hparts => ?_
  refine (Runs.forRange (I := fun _ u => u.work.psize = t.work.psize) t.work.pcount 0 t rfl
    fun i u _ hi hgu hsize => ?_).any
  refine (partition_runs fun h => ?_).mono fun v _ hv => hv.trans hsize
  have hround : (i + 1) * t.work.psize ≤ t.work.pcount * t.work.psize := Nat.mul_le_mul_right _ (by omega)
  rw [hsize, (hg.trans hgu).capacity]
  exact (hround.trans hparts).trans (hp h)

/-! ## FIXED and LPC -/

theorem checkOrder_runs (order : Nat) (s : State) : Runs p s (fun t => order ≤ t.blocksize) (checkOrder order s) := by
  unfold checkOrder
  split
  · exact .raise _ _
  · exact .next (goes_setWork _ _) (by show order ≤ s.blocksize; omega)

theorem readLpcParams_runs (order : Nat) (s : State) : Runs p s (fun _ => True) (readLpcParams order s) := by
  refine .withUint fun v q => .after (goes_setLpcPrec _ _) (.withInt fun shift q => ?_)
  refine .after (goes_setLpcShift _ shift) ?_
  simp only
  split
  · exact .raise _ _
  · exact .forRange_any fun j t _ _ _ => .withInt fun c q => .next (goes_setCoef _ _ _) trivial

/-- The block still fits the buffer. -/
theorem Goes.fits {s t : State} (h : Goes s t) (hs : s.blocksize ≤ s.capacity) : t.blocksize ≤ t.capacity := by
  rwa [h.blocksize, h.capacity]

/-- Both predicted bodies begin with the order's check and the warmup. -/
theorem warmup_runs {order : Nat} {f : State → Out} {s : State} (hp : p → s.blocksize ≤ s.capacity)
    (hf : ∀ t, Goes s t → order ≤ t.blocksize → Runs p t (fun _ => True) (f t)) :
    Runs p s (fun _ => True) (seq (checkOrder order s) fun s => seq (readSamples order s) f) :=
  .seq (checkOrder_runs order s) fun t hg ho =>
    .seq (readSamples_runs fun h => ho.trans (hg.fits (hp h))) fun u hgu _ =>
      hf u (hg.trans hgu) (by rwa [hgu.blocksize])

/-- Both end with the residual and the restoration. -/
theorem predicted_runs {order : Nat} {coefs : State → List Int} {shift : State → Nat} {s : State}
    (hp : p → s.blocksize ≤ s.capacity) (ho : order ≤ s.blocksize) :
    Runs p s (fun _ => True) (seq (decodeResidual order s) fun s => restore order (coefs s) (shift s) s) :=
  .seq (decodeResidual_runs hp) fun t hg _ => restore_runs (by rwa [hg.blocksize]) fun h => hg.fits (hp h)

theorem verbatimBody_runs {s : State} (hp : p → s.blocksize ≤ s.capacity) :
    Runs p s (fun _ => True) (execVerbatimBody s) := .live (readSamples_runs hp)

theorem fixedBody_runs (order : Fin 5) {s : State} (hp : p → s.blocksize ≤ s.capacity) :
    Runs p s (fun _ => True) (execFixedBody order s) :=
  .live (warmup_runs hp fun _ hg ho =>
    predicted_runs (coefs := fun _ => fixedCoef order) (shift := fun _ => 0) (fun h => hg.fits (hp h)) ho)

theorem lpcBody_runs (orderMinus1 : BitVec 5) {s : State} (hp : p → s.blocksize ≤ s.capacity) :
    Runs p s (fun _ => True) (execLpcBody orderMinus1 s) :=
  .live (warmup_runs hp fun _ hg ho => .seq (readLpcParams_runs _ _) fun u hgu _ =>
    predicted_runs (coefs := fun s => s.coefs _) (shift := fun s => s.lpcShift.toNat)
      (fun h => (hg.trans hgu).fits (hp h)) (by rwa [hgu.blocksize]))

/-! ## A subframe -/

theorem wastedBits_runs (s : State) : Runs p s (fun _ => True) (wastedBits s) := by
  unfold wastedBits
  split
  · exact plainLeaf_runs (k := .wastedUnary) rfl _
  · exact .next (.refl s) trivial

theorem effectiveWidth_runs (s : State) : Runs p s (fun _ => True) (effectiveWidth s) := by
  unfold effectiveWidth
  simp only
  split
  · exact .raise _ _
  · exact .next (goes_setWork _ _) trivial

theorem subframeBody_runs {s : State} (hp : p → s.blocksize ≤ s.capacity) :
    Runs p s (fun _ => True) (subframeBody s) := by
  unfold subframeBody
  split_ifs
  · exact runLeaf_runs (k := .constantBody) rfl (by decide) hp
  · exact verbatimBody_runs hp
  · exact fixedBody_runs _ hp
  · exact lpcBody_runs _ hp

theorem shiftWasted_runs {s : State} (hp : p → s.blocksize ≤ s.capacity) :
    Runs p s (fun _ => True) (shiftWasted s) :=
  cellLoop_runs (by simpa using hp) fun _ _ h => (Runs.writeI64 h).any

theorem decodeSubframe_runs (ch : Nat) {s : State} (hp : p → s.blocksize ≤ s.capacity) :
    Runs p s (fun _ => True) (decodeSubframe ch s) := by
  refine .after (goes_setWork s _) (.seq (plainLeaf_runs (k := .subframeHdr) rfl _)
    fun t₁ h₁ _ => .seq (wastedBits_runs t₁) fun t₂ h₂ _ => .seq (effectiveWidth_runs t₂) fun t₃ h₃ _ => ?_)
  have hp₃ : p → t₃.blocksize ≤ t₃.capacity := fun h => (h₁.trans (h₂.trans h₃)).fits (hp h)
  exact .seq (subframeBody_runs hp₃) fun t₄ h₄ _ => shiftWasted_runs fun h => h₄.fits (hp₃ h)

/-! ## The end of a frame -/

theorem midSideAt_runs {i : Nat} {s : State} (hp : p → i < s.capacity) : Runs p s (fun _ => True) (midSideAt i s) := by
  unfold midSideAt
  simp only
  split
  · exact .raise _ _
  · exact .seq (.writeSample hp) fun t hg _ =>
      (Runs.writeI64 fun h => by rw [hg.capacity]; exact hp h).any

theorem decorrelate_runs {s : State} (hp : p → s.blocksize ≤ s.capacity) :
    Runs p s (fun _ => True) (decorrelate s) := by
  have hp' : p → 0 + s.blocksize ≤ s.capacity := by simpa using hp
  unfold decorrelate
  split
  · exact cellLoop_runs hp' fun _ _ h => (Runs.writeI64 h).any
  · exact cellLoop_runs hp' fun _ _ h => (Runs.writeI64 h).any
  · exact cellLoop_runs hp' fun _ _ h => midSideAt_runs h
  · exact .next (.refl s) trivial

theorem frameEnd_runs (s : State) : Runs p s (fun _ => True) (frameEnd s) :=
  .seq (plainLeaf_runs (k := .padding) rfl _) fun _ _ _ =>
    plainLeaf_runs (k := .crc16) rfl _

end
end Sys2Proof.Machine
end

section
/-! A frame: its header makes the frame registers legal, and what follows runs with a block that fits the buffer. -/

namespace Sys2Proof.Machine

/-! ## The header -/

theorem seq_assoc (o : Out) (f g : State → Out) : seq (seq o f) g = seq o fun s => seq (f s) g := by
  cases o with
  | next s =>
    by_cases h : s.fault = true
    · rw [seq_faulted _ h, seq_faulted _ h, seq_faulted _ h]
    · rw [seq_live _ (by simpa using h), seq_live _ (by simpa using h)]
  | fault r => rfl
  | refused r => rfl

theorem seq_raise (r : Raise) (s : State) (f : State → Out) : seq (raise r s) f = raise r s := seq_faulted f rfl

/-- The header's values are those of a legal frame, but for the bound by `N` (R190). -/
def HeaderReady (w : Work) : Prop := (1 ≤ w.blocksize ∧ w.blocksize ≤ 65536) ∧ ChannelsReady w

/-- The elements of the header, without the frame registers' write at its end. -/
def headerFields (s : State) : Out :=
  seq (runLeaf .framePreamble s) fun s =>
  seq (runLeaf .codedNumber s) fun s =>
  seq (blocksizeExtension s) fun s =>
  seq (rateExtension s) fun s =>
  runLeaf .crc8 s

theorem parseFrameHeader_eq (s : State) : parseFrameHeader s = seq (headerFields s) writeFrameRegs := by
  simp only [headerFields, seq_assoc]
  rfl

section
variable {p : Prop}

theorem blocksizeExtension_runs {s : State} (hb : BlocksizeReady s.work) (hc : ChannelsReady s.work) :
    Runs p s (fun t => HeaderReady t.work) (blocksizeExtension s) := by
  have hext : ∀ t : State, (∃ n, 1 ≤ n ∧ n ≤ 65536 ∧ t.work = { s.work with blocksize := n }) → HeaderReady t.work := by
    rintro t ⟨n, hlo, hhi, ht⟩
    rw [ht]
    exact ⟨⟨hlo, hhi⟩, hc⟩
  unfold blocksizeExtension
  split_ifs with h6 h7
  · exact (plainLeaf_runs (k := .blocksizeExt8) rfl _).mono fun t _ h => hext t h
  · exact (plainLeaf_runs (k := .blocksizeExt16) rfl _).mono fun t _ h => hext t h
  · exact .next (.refl s) ⟨(hb.resolve_left h6).resolve_left h7, hc⟩

theorem rateExtension_runs (s : State) :
    Runs p s (fun t => ∃ r, t.work = { s.work with rate := r }) (rateExtension s) := by
  unfold rateExtension
  split_ifs
  · exact plainLeaf_runs (k := .rateExt8Khz) rfl _
  · exact plainLeaf_runs (k := .rateExt16Hz) rfl _
  · exact plainLeaf_runs (k := .rateExt16Dhz) rfl _
  · exact .next (.refl s) ⟨_, rfl⟩

theorem headerFields_runs (s : State) : Runs p s (fun t => HeaderReady t.work) (headerFields s) := by
  refine .seq (plainLeaf_runs (k := .framePreamble) rfl _) fun t₁ _ ⟨hb, hc⟩ => ?_
  refine .seq (plainLeaf_runs (k := .codedNumber) rfl _) fun t₂ _ (h₂ : t₂.work = t₁.work) => ?_
  refine .seq (blocksizeExtension_runs (h₂ ▸ hb) (h₂ ▸ hc)) fun t₃ _ h₃ => ?_
  refine .seq (rateExtension_runs t₃) fun t₄ _ ⟨r, h₄⟩ => ?_
  refine (plainLeaf_runs (k := .crc8) rfl _).mono fun t₅ _ (h₅ : t₅.work = t₄.work) => ?_
  rw [h₅, h₄]
  exact h₃

/-! ## The frame registers -/

/-- The end of a header: A05, or legal frame registers. -/
theorem writeFrameRegs_cases {s : State} (h : HeaderReady s.work) :
    (∃ r, writeFrameRegs s = raise r s) ∨
      ∃ f, FrameRegs.legal s.capacity f ∧ writeFrameRegs s = .next (s.setFrameRegs f) := by
  obtain ⟨⟨hlo, hhi⟩, hca, hnlo, hnhi⟩ := h
  unfold writeFrameRegs
  split
  · exact .inl ⟨_, rfl⟩
  · refine .inr ⟨_, ?_, rfl⟩
    have hb : s.work.blocksize % 2 ^ 17 = s.work.blocksize := Nat.mod_eq_of_lt (by omega)
    have hn : s.work.nch % 2 ^ 2 = s.work.nch := Nat.mod_eq_of_lt (by omega)
    simp only [FrameRegs.legal, BitVec.toNat_ofNat, hb, hn]
    exact ⟨hlo, hhi, by omega, hnlo, hnhi, hca⟩

theorem FrameRegs.legal.fits {s : State} {f : FrameRegs} (h : FrameRegs.legal s.capacity f) :
    (s.setFrameRegs f).blocksize ≤ (s.setFrameRegs f).capacity := by
  obtain ⟨-, -, hcap, -⟩ := h
  exact hcap

/-! ## The whole frame -/

/-- What follows the header (R159). -/
def frameBody (s : State) : Out :=
  seq (forRange s.fr.nch.toNat 0 decodeSubframe s.clearSamples) fun s => seq (decorrelate s) frameEnd

theorem frameBody_runs {s : State} (hp : p → s.blocksize ≤ s.capacity) :
    Runs p s (fun _ => True) (frameBody s) := by
  refine .after (goes_clearSamples s) (.seq (.forRange_any fun i t _ _ hg =>
    decodeSubframe_runs i fun h => hg.fits (hp h)) fun t hg _ => ?_)
  exact .seq (decorrelate_runs fun h => hg.fits (hp h)) fun u _ _ => frameEnd_runs u

theorem decodeFrame_eq (s : State) :
    decodeFrame s = seq (headerFields s) fun u => seq (writeFrameRegs u) frameBody := by
  rw [← seq_assoc, ← parseFrameHeader_eq]
  rfl

/-- Behind the header's elements a frame takes A05, or its body runs with legal frame registers. -/
theorem frame_after_header {s : State} (h : HeaderReady s.work) (hl : s.fault = false) :
    (∃ r, seq (writeFrameRegs s) frameBody = raise r s) ∨
      ∃ f, FrameRegs.legal s.capacity f ∧ seq (writeFrameRegs s) frameBody = frameBody (s.setFrameRegs f) := by
  rcases writeFrameRegs_cases h with ⟨r, hr⟩ | ⟨f, hf, hw⟩
  · exact .inl ⟨r, by rw [hr, seq_raise]⟩
  · exact .inr ⟨f, hf, by rw [hw, seq_live _ (by simpa using hl)]⟩

end

theorem decodeFrame_answers (s : State) : Answers (decodeFrame s) := by
  have hfields : Runs True s _ (headerFields s) := headerFields_runs s
  rw [decodeFrame_eq]
  refine answers_seq (hfields.answers trivial) (hfields.ensures) fun u hready hl => ?_
  rcases frame_after_header (hready hl) hl with ⟨r, hr⟩ | ⟨f, hf, hw⟩
  · rw [hr]; exact answers_raise r u
  · rw [hw]; exact (frameBody_runs (p := True) fun _ => hf.fits).answers trivial

end Sys2Proof.Machine
end

section
/-! The STREAMINFO body, the one element that writes `SI_*`. -/

namespace Sys2Proof.Machine

/-- The run advanced, or it wrote a legal `SI_*` group behind the body's bits. -/
def StreamInfoEnds (s t : State) : Prop :=
  Advances s t ∨ ∃ u i, Goes s u ∧ StreamInfo.legal u.capacity i ∧ t = u.setStreamInfo i

theorem StreamInfoEnds.raise (r : Raise) {s u : State} (h : Goes s u) : StreamInfoEnds s (u.scramble.latch r) :=
  .inl (.inr ⟨u, r, h, rfl⟩)

/-- The two checks of R155 are what makes the group legal; the sample size is legal by its field's width. -/
theorem streamInfoOf_legal {n : Nat} {minBlock maxBlock : BitVec 16} {minFrame maxFrame : BitVec 24}
    {rate : BitVec 20} {channelsMinus1 : BitVec 3} {bpsMinus1 : BitVec 5} {total : BitVec 36}
    (hblock : maxBlockFault n maxBlock.toNat = none) (hch : channelCountFault (channelsMinus1.toNat + 1) = none) :
    StreamInfo.legal n (streamInfoOf minBlock maxBlock minFrame maxFrame rate channelsMinus1 bpsMinus1 total) := by
  simp only [maxBlockFault, channelCountFault, ite_eq_right_iff, reduceCtorEq, imp_false, gt_iff_lt, not_lt]
    at hblock hch
  have hbps := bpsMinus1.isLt
  simp only [StreamInfo.legal, streamInfoOf, BitVec.toNat_ofNat]
  omega

theorem streaminfoBody_ends (minBlock maxBlock : BitVec 16) (minFrame maxFrame : BitVec 24) (rate : BitVec 20)
    (channelsMinus1 : BitVec 3) (bpsMinus1 : BitVec 5) (total : BitVec 36) (md5 : BitVec 128) (s : State) :
    ∃ t, execStreaminfoBody minBlock maxBlock minFrame maxFrame rate channelsMinus1 bpsMinus1 total md5 s = .next t ∧
      StreamInfoEnds s t := by
  unfold execStreaminfoBody
  by_cases hl : s.fault = true
  · exact ⟨s, element_faulted _ hl, .inl (.inl (.refl s))⟩
  by_cases hb : s.bitpos + 272 ≤ s.bitLength
  · rw [element_ok _ (by simpa using hl) hb]
    have hg : Goes s (s.setBitpos (s.bitpos + 272)) := goes_setBitpos fun _ => ⟨by omega, hb⟩
    cases hblock : maxBlockFault (s.setBitpos (s.bitpos + 272)).capacity maxBlock.toNat with
    | some r => exact ⟨_, rfl, .raise r hg⟩
    | none =>
      cases hch : channelCountFault (channelsMinus1.toNat + 1) with
      | some r => exact ⟨_, rfl, .raise r hg⟩
      | none => exact ⟨_, rfl, .inr ⟨_, _, hg, streamInfoOf_legal hblock hch, rfl⟩⟩
  · rw [element_short _ (by simpa using hl) (by omega)]
    exact ⟨_, rfl, .raise _ (.refl s)⟩

/-- The only instruction of its kind. -/
theorem execLeaf_streaminfo_ends {i : Instr} (h : i.kind? = some .streaminfoBody) (s : State) :
    ∃ t, execLeaf i s = .next t ∧ StreamInfoEnds s t := by
  cases i <;> cases h
  case streaminfoBody.refl md5 => exact streaminfoBody_ends _ _ _ _ _ _ _ _ md5 s

theorem runLeaf_streaminfo_ends (s : State) : ∃ t, runLeaf .streaminfoBody s = .next t ∧ StreamInfoEnds s t := by
  unfold runLeaf
  by_cases hl : s.fault = true
  · exact ⟨s, live_faulted _ hl, .inl (.inl (.refl s))⟩
  rw [live_ok _ (by simpa using hl)]
  cases hd : s.decodeAt .streaminfoBody with
  | error r => exact ⟨_, rfl, .raise r (.refl s)⟩
  | ok i => exact execLeaf_streaminfo_ends (yields_decodeElem _ _ _ i hd) s

end Sys2Proof.Machine
end

section
/-! Every command comes to an end. -/

namespace Sys2Proof.Machine

theorem answers_command {c : Command} {s : State} {f : State → Out} (hf : Answers (f s)) : Answers (command c s f) := by
  refine answers_live fun _ => ?_
  split
  · exact hf
  · exact ⟨_, rfl⟩

/-- A total part followed by something that answers from every state. -/
theorem answers_seq_any {o : Out} {f : State → Out} (ho : Answers o) (hf : ∀ s, Answers (f s)) : Answers (seq o f) :=
  answers_seq (Q := fun _ => True) ho (fun _ _ => trivial) fun s _ _ => hf s

theorem plainLeaf_answers {k : Kind} (h : k.isPlain = true) (s : State) : Answers (runLeaf k s) :=
  (plainLeaf_runs (p := True) h s).answers trivial

theorem metadataBody_answers (s : State) : Answers (metadataBody s) := by
  unfold metadataBody
  split
  · obtain ⟨t, ht, -⟩ := runLeaf_streaminfo_ends s
    exact ⟨t, ht⟩
  · exact plainLeaf_answers rfl s

theorem execDecodeMarker_answers (s : State) : Answers (execDecodeMarker s) :=
  answers_command (answers_seq_any (plainLeaf_answers rfl s) fun _ => answers_next _)

theorem execDecodeMetadata_answers (s : State) : Answers (execDecodeMetadata s) :=
  answers_command (answers_seq_any (plainLeaf_answers rfl s) fun t =>
    answers_seq_any (metadataBody_answers t) fun _ => answers_next _)

theorem execDecodeAudio_answers (s : State) : Answers (execDecodeAudio s) := by
  refine answers_command ?_
  simp only
  split
  · exact answers_next _
  · exact answers_seq_any (decodeFrame_answers _) fun _ => answers_next _

/-- Settles O20: every loop of a command is bounded, and the checks of R155, R190 and R251 keep its cells below `N`. -/
theorem everyCommandAnswers : Obligations.EveryCommandAnswers := by
  intro s i hi
  simp only [List.mem_cons, List.not_mem_nil, or_false] at hi
  rcases hi with rfl | rfl | rfl
  · exact execDecodeMarker_answers s
  · exact execDecodeMetadata_answers s
  · exact execDecodeAudio_answers s

end Sys2Proof.Machine
end

section
/-! One step: what it runs, and that it keeps the legal states. -/

namespace Sys2Proof.Machine

/-! ## What a step runs -/

section
variable {s : State} {rest : List Request}

theorem step_idle (h : s.port = []) : step s = .next s := by simp only [step, h]

theorem step_construct {stream : List Byte} {n : Nat} (h : s.port = .construct stream n :: rest) :
    step s = reconstruct stream n (s.setPort rest) := by simp only [step, h]

theorem step_command {n : BitVec 2} (h : s.port = .command n :: rest) :
    step s = exec (decodeCommand n) (s.setPort rest) := by
  simp only [step, h, State.fetch, fetchRequest]

theorem step_bitSource {q : Primitive} (h : s.port = .bitSource q :: rest) :
    step s = exec q.instr (s.setPort rest) := by
  simp only [step, h, State.fetch, fetchRequest]

theorem step_element_ok {k : Kind} {i : Instr} (h : s.port = .element k :: rest) (hd : s.decodeAt k = .ok i) :
    step s = exec i (s.setPort rest) := by
  have hd' : (s.setPort rest).decodeAt k = .ok i := hd
  simp only [step, h, State.fetch, fetchRequest, hd']

theorem step_element_error {k : Kind} {r : Raise} (h : s.port = .element k :: rest) (hd : s.decodeAt k = .error r) :
    step s = live (s.setPort rest) (raise r) := by
  have hd' : (s.setPort rest).decodeAt k = .error r := hd
  simp only [step, h, State.fetch, fetchRequest, hd']

end

/-- Settles O11, request by request. -/
theorem stepRunsTheDecodedInstruction : Obligations.StepRunsTheDecodedInstruction := by
  intro s rest
  refine ⟨fun n h => step_command h, fun q h => step_bitSource h, fun k i h hd => step_element_ok h hd,
    fun k r h hd hl => ?_, fun k r h hd hl => ?_, step_idle⟩
  · rw [step_element_error h hd, live_ok (raise r) (show (s.setPort rest).fault = false from hl)]
    exact faultsWith_raise rfl rfl rfl rfl rfl
  · rw [step_element_error h hd, live_faulted (raise r) (show (s.setPort rest).fault = true from hl)]
    rfl

/-! ## Updates that keep a legal state -/

section
variable {s t : State}

theorem Goes.legal (h : Goes s t) (hs : s.Legal) : t.Legal := by
  obtain ⟨hcap, hpos, hwf, hkind, hsi, hfr⟩ := hs
  rw [State.Legal, h.capacity, h.bitLength, h.fault, h.faultKind, h.faultCause, h.si, h.siValid, h.fr, h.frValid]
  exact ⟨hcap, (h.bitpos_mono hpos).2, h.memory_wf hwf, hkind, hsi, hfr⟩

/-- Under a fault no register is held to a range. -/
theorem legal_of_fault (hcap : 1 ≤ s.capacity) (hpos : s.bitpos ≤ s.bitLength) (hwf : Memory.wf s = true)
    (hl : s.fault = true) (hkind : s.faultKind = causeKind s.faultCause) : s.Legal :=
  ⟨hcap, hpos, hwf, fun _ => hkind, fun h => by simp [hl] at h, fun h => by simp [hl] at h⟩

theorem legal_latch (r : Raise) (hs : s.Legal) : (s.latch r).Legal := by
  obtain ⟨hcap, hpos, hwf, -⟩ := hs
  exact legal_of_fault hcap hpos hwf rfl rfl

theorem legal_raise (r : Raise) (hs : s.Legal) : (s.scramble.latch r).Legal := by
  obtain ⟨hcap, -⟩ := hs
  exact legal_of_fault hcap (Nat.lt_succ_iff.1 (Nat.mod_lt _ (Nat.succ_pos _))) rfl rfl rfl

theorem legal_construct (stream : List Byte) {n : Nat} (hn : n ≠ 0) : (State.construct stream n).Legal := by
  refine ⟨Nat.pos_of_ne_zero hn, Nat.zero_le _, rfl, ?_, ?_, ?_⟩ <;> simp

theorem legal_setStreamInfo {i : StreamInfo} (hs : s.Legal) (hi : StreamInfo.legal s.capacity i) :
    (s.setStreamInfo i).Legal := by
  obtain ⟨hcap, hpos, hwf, hkind, -, hfr⟩ := hs
  exact ⟨hcap, hpos, hwf, hkind, fun _ _ => hi, hfr⟩

theorem legal_setFrameRegs (f : FrameRegs) (hs : s.Legal) (hv : s.frValid = false) : (s.setFrameRegs f).Legal := by
  obtain ⟨hcap, hpos, hwf, hkind, hsi, -⟩ := hs
  exact ⟨hcap, hpos, hwf, hkind, hsi, fun _ h => by cases hv.symm.trans h⟩

theorem legal_setFrValid {b : Bool} (hs : s.Legal) (hfr : b = true → FrameRegs.legal s.capacity s.fr) :
    (s.setFrValid b).Legal := by
  obtain ⟨hcap, hpos, hwf, hkind, hsi, -⟩ := hs
  exact ⟨hcap, hpos, hwf, hkind, hsi, fun _ => hfr⟩

theorem legal_setDecState (d : DecState) (hs : s.Legal) : (s.setDecState d).Legal := hs

theorem legal_setResult (v : Int) (hs : s.Legal) : (s.setResult v).Legal := hs

theorem legal_setPort (port : List Request) (hs : s.Legal) : (s.setPort port).Legal := hs

theorem Advances.legal (h : Advances s t) (hs : s.Legal) : t.Legal := by
  rcases h with h | ⟨u, r, h, rfl⟩
  · exact h.legal hs
  · exact legal_raise r (h.legal hs)

theorem StreamInfoEnds.legal (h : StreamInfoEnds s t) (hs : s.Legal) : t.Legal := by
  rcases h with h | ⟨u, i, h, hi, rfl⟩
  · exact h.legal hs
  · exact legal_setStreamInfo (h.legal hs) hi

theorem Runs.legal {p : Prop} {Q : State → Prop} {o : Out} (h : Runs p s Q o) (hs : s.Legal) : Post State.Legal o :=
  h.advances.mono fun _ ha => ha.legal hs

end

/-! ## Bit-source calls and elements -/

section
variable {s : State}

theorem legal_consume_result {n : Nat} (v : Int) (hs : s.Legal) :
    Post State.Legal (consume n s fun s => .next (s.setResult v)) :=
  post_consume (legal_raise _ hs) fun hb => (post_next _ _).2
    (legal_setResult v ((goes_setBitpos fun _ => ⟨by omega, hb⟩).legal hs))

theorem legal_withUint_result {n : Nat} (g : Nat → Int) (hs : s.Legal) :
    Post State.Legal (withUint n s fun v s => .next (s.setResult (g v))) := by
  unfold withUint
  split
  · exact (post_next _ _).2 (legal_setResult _ hs)
  · exact legal_consume_result _ hs

theorem legal_live {f : State → Out} (hs : s.Legal) (hf : Post State.Legal (f s)) : Post State.Legal (live s f) :=
  post_live (fun _ => hs) fun _ => hf

theorem legal_withUnary_result (hs : s.Legal) :
    Post State.Legal (withUnary s fun q s => .next (s.setResult q)) := by
  unfold withUnary
  split
  · exact post_raise _ _ (legal_raise _ hs)
  · exact legal_consume_result _ hs

/-- A read of at most 64 bits, refused for more (R130, R131). -/
theorem legal_field {n : Nat} (g : Nat → Int) (hs : s.Legal) :
    Post State.Legal (if n ≤ Config.maxField then withUint n s fun v s => .next (s.setResult (g v))
      else .refused .fieldTooWide) := by
  split
  · exact legal_withUint_result g hs
  · exact post_refused _ _

theorem call_keeps_legal (q : Primitive) (hs : s.Legal) : Post State.Legal (exec q.instr s) := by
  cases q with
  | getUint n => show Post _ (execGetUint n s); exact legal_live hs (legal_field (fun v => v) hs)
  | getInt n => show Post _ (execGetInt n s); exact legal_live hs (legal_field (sext n) hs)
  | getByte => show Post _ (execGetByte s); exact legal_live hs (legal_withUint_result (fun v => v) hs)
  | align => show Post _ (execAlign s); exact legal_live hs ((post_next _ _).2 ((goes_align s).legal hs))
  | clz8 b => show Post _ (execClz8 b s); exact legal_live hs ((post_next _ _).2 (legal_setResult _ hs))
  | eos => show Post _ (execEos s); exact legal_live hs ((post_next _ _).2 (legal_setResult _ hs))
  | getUnary => show Post _ (execGetUnary s); exact legal_live hs (legal_withUnary_result hs)
  | skipBytes n => show Post _ (execSkipBytes n s); exact legal_live hs ((skipBytes_runs (p := False) n s).legal hs)

/-- The sequencer runs what `exec` runs. -/
theorem execLeaf_eq (i : Instr) (s : State) :
    execLeaf i s = if i.kind?.any Kind.isLeaf then exec i s else .refused .notALeaf := by
  cases i <;> rfl

/-- Every element but the STREAMINFO body, leaf or body. -/
theorem exec_runs {p : Prop} {i : Instr} {k : Kind} (hk : i.kind? = some k) (hsi : k ≠ .streaminfoBody)
    (hp : p → k.Fits s) : Runs p s (fun t => k.Leaves s t.work) (exec i s) := by
  by_cases hl : k.isLeaf = true
  · have hrun := execLeaf_runs hk hl hsi hp
    rwa [execLeaf_eq, if_pos (by rw [hk]; exact hl)] at hrun
  · match i, hk with
    | .verbatimBody, rfl => exact verbatimBody_runs hp
    | .fixedBody order, rfl => exact fixedBody_runs order hp
    | .lpcBody orderMinus1, rfl => exact lpcBody_runs orderMinus1 hp

theorem element_keeps_legal {i : Instr} {k : Kind} (hk : i.kind? = some k) (hs : s.Legal) :
    Post State.Legal (exec i s) := by
  by_cases hsi : k = .streaminfoBody
  · subst hsi
    obtain ⟨t, ht, hends⟩ := execLeaf_streaminfo_ends hk s
    rw [execLeaf_eq, if_pos (by rw [hk]; rfl)] at ht
    rw [ht]
    exact (post_next _ _).2 (hends.legal hs)
  · exact (exec_runs (p := False) hk hsi False.elim).legal hs

/-! ## Commands -/

theorem command_keeps_legal {c : Command} {f : State → Out} (hs : s.Legal) (hf : Post State.Legal (f s)) :
    Post State.Legal (command c s f) := by
  refine legal_live hs ?_
  split
  · exact hf
  · exact (post_next _ _).2 (legal_latch _ hs)

theorem runLeaf_keeps_legal {k : Kind} (hl : k.isLeaf = true) (hs : s.Legal) : Post State.Legal (runLeaf k s) := by
  by_cases hsi : k = .streaminfoBody
  · subst hsi
    obtain ⟨t, ht, hends⟩ := runLeaf_streaminfo_ends s
    rw [ht]
    exact (post_next _ _).2 (hends.legal hs)
  · exact (runLeaf_runs (p := False) hl hsi False.elim).legal hs

theorem legal_finish (hs : s.Legal) : s.finish.Legal := (goes_finish s).legal hs

theorem execDecodeMarker_keeps_legal (hs : s.Legal) : Post State.Legal (execDecodeMarker s) :=
  command_keeps_legal hs (post_seq_inv (runLeaf_keeps_legal rfl hs) fun _ ht =>
    (post_next _ _).2 (legal_finish (legal_setDecState _ ht)))

theorem metadataBody_keeps_legal (hs : s.Legal) : Post State.Legal (metadataBody s) := by
  unfold metadataBody
  split
  · exact runLeaf_keeps_legal rfl hs
  · exact runLeaf_keeps_legal rfl hs

theorem execDecodeMetadata_keeps_legal (hs : s.Legal) : Post State.Legal (execDecodeMetadata s) := by
  refine command_keeps_legal hs (post_seq_inv (runLeaf_keeps_legal rfl hs) fun t ht =>
    post_seq_inv (metadataBody_keeps_legal ht) fun u hu => (post_next _ _).2 (legal_finish ?_))
  split
  · exact legal_setDecState _ hu
  · exact hu

/-- A frame keeps the legal states and ends, without a fault, with legal frame registers. -/
theorem decodeFrame_keeps_legal (hs : s.Legal) (hv : s.frValid = false) :
    Post (fun t => t.Legal ∧ (t.fault = false → FrameRegs.legal t.capacity t.fr)) (decodeFrame s) := by
  have hfields := headerFields_runs (p := False) s
  rw [decodeFrame_eq]
  refine post_seq (hfields.advances.and hfields.ensures)
    (fun u ⟨ha, _⟩ hl => ⟨ha.legal hs, fun h => by simp [hl] at h⟩) fun u ⟨ha, hready⟩ hl => ?_
  have hu : u.Legal := ha.legal hs
  rcases frame_after_header (hready hl) hl with ⟨r, hr⟩ | ⟨f, hf, hw⟩
  · rw [hr]
    exact post_raise r u ⟨legal_raise r hu, fun h => by cases h⟩
  · rw [hw]
    have hregs : (u.setFrameRegs f).Legal := legal_setFrameRegs f hu (by rw [(ha.goes hl).frValid, hv])
    refine (frameBody_runs (p := False) False.elim).advances.mono fun t ht => ⟨ht.legal hregs, fun h => ?_⟩
    rw [(ht.goes h).fr, (ht.goes h).capacity]
    exact hf

theorem execDecodeAudio_keeps_legal (hs : s.Legal) : Post State.Legal (execDecodeAudio s) := by
  have hclear : (s.setFrValid false).Legal := legal_setFrValid hs (by simp)
  refine command_keeps_legal hs ?_
  simp only
  split
  · exact (post_next _ _).2 (legal_finish (legal_setDecState _ hclear))
  · exact post_seq (decodeFrame_keeps_legal hclear rfl) (fun _ ht _ => ht.1) fun t ⟨ht, hfr⟩ hl =>
      (post_next _ _).2 (legal_finish (legal_setFrValid ht fun _ => hfr hl))

theorem decodeCommand_keeps_legal (n : BitVec 2) (hs : s.Legal) : Post State.Legal (exec (decodeCommand n) s) := by
  unfold decodeCommand
  split_ifs
  · exact execDecodeMarker_keeps_legal hs
  · exact execDecodeMetadata_keeps_legal hs
  · exact execDecodeAudio_keeps_legal hs
  · exact post_refused _ _

end

/-! ## A step -/

theorem reconstruct_legal (stream : List Byte) (n : Nat) (s : State) :
    Post State.Legal (reconstruct stream n s) := by
  unfold reconstruct
  split
  · exact post_refused _ _
  · next hn => exact (post_next _ _).2 (legal_setPort s.port (legal_construct stream hn))

theorem step_keeps_legal {s : State} (hs : s.Legal) : Post State.Legal (step s) := by
  rcases hport : s.port with _ | ⟨r, rest⟩
  · rw [step_idle hport]
    exact (post_next _ _).2 hs
  have hs' : (s.setPort rest).Legal := legal_setPort rest hs
  cases r with
  | construct stream n => rw [step_construct hport]; exact reconstruct_legal stream n _
  | command n => rw [step_command hport]; exact decodeCommand_keeps_legal n hs'
  | bitSource q => rw [step_bitSource hport]; exact call_keeps_legal q hs'
  | element k =>
    cases hd : s.decodeAt k with
    | ok i => rw [step_element_ok hport hd]; exact element_keeps_legal (yields_decodeElem _ _ _ i hd) hs'
    | error r => rw [step_element_error hport hd]; exact legal_live hs' (post_raise r _ (legal_raise r hs'))

/-- Settles O21, request by request: elements and bodies advance a legal state (`Goes`), `decode_audio` sets `F_VALID`
only behind the checks of its header. -/
theorem stepKeepsLegal : Obligations.StepKeepsLegal := fun _ t hs h => step_keeps_legal hs t h

end Sys2Proof.Machine
end

section
/-! What the host reads (R33), and the state after reset (R35). -/

namespace Sys2Proof.Machine

section
variable {s : State}

/-- The host's condition for `SI_*`: the states from `HAS_METADATA` on are the last two. -/
theorem siReadable_iff : s.siReadable = true ↔
    s.fault = false ∧ (s.decState = .hasMetadata ∨ s.decState = .complete) ∧ s.siValid = true := by
  have hstate : 2 ≤ decStateNumber s.decState ↔ s.decState = .hasMetadata ∨ s.decState = .complete := by
    cases s.decState <;> decide
  simp only [State.siReadable, Bool.and_eq_true, Bool.not_eq_true', decide_eq_true_eq, hstate, and_assoc]

theorem frameReadable_iff : s.frameReadable = true ↔ s.fault = false ∧ s.frValid = true := by
  simp only [State.frameReadable, Bool.and_eq_true, Bool.not_eq_true']

theorem readSample_active {c i : Nat} (k : Nat) (h : s.frameReadable = true) (hc : c < s.fr.nch.toNat)
    (hi : i < s.blocksize) : readSample k c i s = s.cell c i := if_pos (by simp [h, hc, hi])

theorem readSample_inactive {c i : Nat} (k : Nat)
    (h : ¬(s.frameReadable = true ∧ c < s.fr.nch.toNat ∧ i < s.blocksize)) :
    readSample k c i s = Config.freeCell k c i := if_neg (by simpa [and_assoc] using h)

end

/-- Settles O14: each accessor branches on the condition that R33 gives it. -/
theorem hostReadsUnderTheirConditions : Obligations.HostReadsUnderTheirConditions := by
  intro s k
  simp only [← siReadable_iff, ← frameReadable_iff]
  refine ⟨rfl, rfl, fun h => ?_, fun h => ?_, fun h => if_pos h, fun h => if_neg h, fun h => ?_, fun h => ?_⟩
  · exact ⟨if_pos h, if_pos h, if_pos h⟩
  · exact ⟨if_neg (by simp [h]), if_neg (by simp [h]), if_neg (by simp [h])⟩
  · exact ⟨if_pos h, if_pos h, if_pos h, fun c i =>
      ⟨fun ⟨hc, hi⟩ => readSample_active k h hc hi, fun hout => readSample_inactive k fun ⟨_, hin⟩ => hout hin⟩⟩
  · exact ⟨if_neg h, if_neg h, if_neg h, fun c i => readSample_inactive k fun ⟨hr, _⟩ => h hr⟩

/-- Settles O13: reset is a construction with a capacity that is not 0. -/
theorem resetIsLegal : Obligations.ResetIsLegal :=
  ⟨legal_construct [] (by decide), rfl, rfl, rfl, rfl, rfl, rfl⟩

end Sys2Proof.Machine
end

section
/-! Every instruction keeps `STREAM` and `N`, and moves `BITPOS` upwards and within `8·L` unless a fault is taken. -/

namespace Sys2Proof.Machine

/-- `STREAM` and `N` stayed (R21, R4), and `BITPOS` moved upwards only and within `8·L` (R22) unless a fault made it
unspecified. -/
structure Forward (s t : State) : Prop where
  stream : t.stream = s.stream
  capacity : t.capacity = s.capacity
  bitpos : t.fault = false → s.bitpos ≤ s.bitLength → s.bitpos ≤ t.bitpos ∧ t.bitpos ≤ s.bitLength

section
variable {s t u : State}

theorem Goes.forward (h : Goes s t) : Forward s t := ⟨h.stream, h.capacity, fun _ => h.bitpos_mono⟩

/-- A fault keeps the two parameters, whatever else it writes. -/
theorem Forward.of_fault (hs : t.stream = s.stream) (hc : t.capacity = s.capacity) (hf : t.fault = true) :
    Forward s t := ⟨hs, hc, fun h => by simp [hf] at h⟩

/-- An update of registers other than `BITPOS`. -/
theorem Forward.of_bitpos_eq (hs : t.stream = s.stream) (hc : t.capacity = s.capacity) (hb : t.bitpos = s.bitpos) :
    Forward s t := ⟨hs, hc, fun _ h => by rw [hb]; exact ⟨le_refl _, h⟩⟩

theorem Forward.trans (h₁ : Forward s t) (ht : t.fault = false) (h₂ : Forward t u) : Forward s u where
  stream := h₂.stream.trans h₁.stream
  capacity := h₂.capacity.trans h₁.capacity
  bitpos hu hs := by
    have hL : t.bitLength = s.bitLength := State.bitLength_congr s t h₁.stream
    obtain ⟨hst, htL⟩ := h₁.bitpos ht hs
    obtain ⟨htu, huL⟩ := h₂.bitpos hu (hL ▸ htL)
    exact ⟨hst.trans htu, hL ▸ huL⟩

theorem Forward.refl (s : State) : Forward s s := (Goes.refl s).forward

theorem Advances.forward (h : Advances s t) : Forward s t := by
  rcases h with h | ⟨u, r, h, rfl⟩
  · exact h.forward
  · exact .of_fault h.stream h.capacity rfl

theorem StreamInfoEnds.forward (h : StreamInfoEnds s t) : Forward s t := by
  rcases h with h | ⟨u, i, h, -, rfl⟩
  · exact h.forward
  · exact ⟨h.stream, h.capacity, fun _ => h.bitpos_mono⟩

theorem Runs.forward {p : Prop} {Q : State → Prop} {o : Out} (h : Runs p s Q o) : Post (Forward s) o :=
  h.advances.mono fun _ ha => ha.forward

theorem forward_raise (r : Raise) (s : State) : Post (Forward s) (raise r s) :=
  post_raise r s (.of_fault rfl rfl rfl)

theorem forward_live {f : State → Out} (hf : Post (Forward s) (f s)) : Post (Forward s) (live s f) :=
  post_live (fun _ => .refl s) fun _ => hf

theorem forward_seq {o : Out} {f : State → Out} (ho : Post (Forward s) o) (hf : ∀ t, Post (Forward t) (f t)) :
    Post (Forward s) (seq o f) :=
  post_seq ho (fun _ h _ => h) fun t h hl => (hf t).mono fun _ hu => h.trans hl hu

end

/-! ## Bit-source calls -/

section
variable {s : State}

theorem forward_consume_result (n : Nat) (v : Int) :
    Post (Forward s) (consume n s fun s => .next (s.setResult v)) :=
  post_consume (.of_fault rfl rfl rfl) fun hb => (post_next _ _).2
    ⟨rfl, rfl, fun _ _ => ⟨Nat.le_add_right _ _, hb⟩⟩

theorem forward_withUint_result (n : Nat) (g : Nat → Int) :
    Post (Forward s) (withUint n s fun v s => .next (s.setResult (g v))) := by
  unfold withUint
  split
  · exact (post_next _ _).2 (.of_bitpos_eq rfl rfl rfl)
  · exact forward_consume_result n _

theorem forward_withUnary_result : Post (Forward s) (withUnary s fun q s => .next (s.setResult q)) := by
  unfold withUnary
  split
  · exact forward_raise _ s
  · exact forward_consume_result _ _

/-- A read of at most 64 bits, refused for more (R130, R131). -/
theorem forward_field (n : Nat) (g : Nat → Int) :
    Post (Forward s) (if n ≤ Config.maxField then withUint n s fun v s => .next (s.setResult (g v))
      else .refused .fieldTooWide) := by
  split
  · exact forward_withUint_result n g
  · exact post_refused _ _

theorem call_forward (q : Primitive) (s : State) : Post (Forward s) (exec q.instr s) := by
  cases q with
  | getUint n => show Post _ (execGetUint n s); exact forward_live (forward_field n fun v => v)
  | getInt n => show Post _ (execGetInt n s); exact forward_live (forward_field n (sext n))
  | getByte => show Post _ (execGetByte s); exact forward_live (forward_withUint_result 8 fun v => v)
  | align => show Post _ (execAlign s); exact forward_live ((post_next _ _).2 (goes_align s).forward)
  | clz8 b => show Post _ (execClz8 b s); exact forward_live ((post_next _ _).2 (.of_bitpos_eq rfl rfl rfl))
  | eos => show Post _ (execEos s); exact forward_live ((post_next _ _).2 (.of_bitpos_eq rfl rfl rfl))
  | getUnary => show Post _ (execGetUnary s); exact forward_live forward_withUnary_result
  | skipBytes n => show Post _ (execSkipBytes n s); exact forward_live (skipBytes_runs (p := False) n s).forward

end

/-! ## Elements -/

theorem element_forward {i : Instr} {k : Kind} (hk : i.kind? = some k) (s : State) : Post (Forward s) (exec i s) := by
  by_cases hsi : k = .streaminfoBody
  · subst hsi
    obtain ⟨t, ht, hends⟩ := execLeaf_streaminfo_ends hk s
    rw [execLeaf_eq, if_pos (by rw [hk]; rfl)] at ht
    rw [ht]
    exact (post_next _ _).2 hends.forward
  · exact (exec_runs (p := False) hk hsi False.elim).forward

/-! ## Commands -/

section
variable {s : State}

theorem command_forward {c : Command} {f : State → Out} (hf : Post (Forward s) (f s)) :
    Post (Forward s) (command c s f) := by
  refine forward_live ?_
  split
  · exact hf
  · exact (post_next _ _).2 (.of_fault rfl rfl rfl)

theorem metadataBody_forward (s : State) : Post (Forward s) (metadataBody s) := by
  unfold metadataBody
  split
  · obtain ⟨t, ht, hends⟩ := runLeaf_streaminfo_ends s
    rw [ht]
    exact (post_next _ _).2 hends.forward
  · exact (plainLeaf_runs (p := False) (k := .skippedBody) rfl s).forward

theorem execDecodeMarker_forward (s : State) : Post (Forward s) (execDecodeMarker s) :=
  command_forward (forward_seq (plainLeaf_runs (p := False) (k := .marker) rfl s).forward fun _ =>
    (post_next _ _).2 (.of_bitpos_eq rfl rfl rfl))

theorem execDecodeMetadata_forward (s : State) : Post (Forward s) (execDecodeMetadata s) := by
  refine command_forward (forward_seq (plainLeaf_runs (p := False) (k := .metaHdr) rfl s).forward fun t =>
    forward_seq (metadataBody_forward t) fun u => (post_next _ _).2 ?_)
  split <;> exact .of_bitpos_eq rfl rfl rfl

theorem writeFrameRegs_forward (s : State) : Post (Forward s) (writeFrameRegs s) := by
  unfold writeFrameRegs
  split
  · exact forward_raise _ s
  · exact (post_next _ _).2 (.of_bitpos_eq rfl rfl rfl)

theorem decodeFrame_forward (s : State) : Post (Forward s) (decodeFrame s) := by
  rw [decodeFrame_eq]
  exact forward_seq (headerFields_runs (p := False) s).forward fun t =>
    forward_seq (writeFrameRegs_forward t) fun _ => (frameBody_runs (p := False) False.elim).forward

theorem execDecodeAudio_forward (s : State) : Post (Forward s) (execDecodeAudio s) := by
  refine command_forward ?_
  simp only
  split
  · exact (post_next _ _).2 (.of_bitpos_eq rfl rfl rfl)
  · have hframe : Post (Forward (s.setFrValid false))
        (seq (decodeFrame (s.setFrValid false)) fun t => .next (t.setFrValid true).finish) :=
      forward_seq (decodeFrame_forward _) fun _ => (post_next _ _).2 (.of_bitpos_eq rfl rfl rfl)
    exact hframe.mono fun _ h => ⟨h.stream, h.capacity, h.bitpos⟩

theorem decodeCommand_forward (n : BitVec 2) (s : State) : Post (Forward s) (exec (decodeCommand n) s) := by
  unfold decodeCommand
  split_ifs
  · exact execDecodeMarker_forward s
  · exact execDecodeMetadata_forward s
  · exact execDecodeAudio_forward s
  · exact post_refused _ _

end

/-! ## Every instruction, every request -/

/-- An instruction that is no element is a command or a bit-source call. -/
theorem command_or_call {i : Instr} (h : i.kind? = none) :
    (∃ n, i = decodeCommand n) ∨ ∃ q : Primitive, i = q.instr := by
  cases i <;> cases h
  case decodeMarker => exact .inl ⟨0, rfl⟩
  case decodeMetadata => exact .inl ⟨1, rfl⟩
  case decodeAudio => exact .inl ⟨2, rfl⟩
  case command3Unused => exact .inl ⟨3, rfl⟩
  case getUint n => exact .inr ⟨.getUint n, rfl⟩
  case getInt n => exact .inr ⟨.getInt n, rfl⟩
  case getByte => exact .inr ⟨.getByte, rfl⟩
  case align => exact .inr ⟨.align, rfl⟩
  case clz8 b => exact .inr ⟨.clz8 b, rfl⟩
  case eos => exact .inr ⟨.eos, rfl⟩
  case getUnary => exact .inr ⟨.getUnary, rfl⟩
  case skipBytes n => exact .inr ⟨.skipBytes n, rfl⟩

theorem exec_forward (i : Instr) (s : State) : Post (Forward s) (exec i s) := by
  cases hk : i.kind? with
  | some k => exact element_forward hk s
  | none =>
    rcases command_or_call hk with ⟨n, rfl⟩ | ⟨q, rfl⟩
    · exact decodeCommand_forward n s
    · exact call_forward q s

/-- A step that serves a request other than a construction. -/
theorem step_forward {s : State} {r : Request} {rest : List Request} (h : s.port = r :: rest)
    (hr : ∀ stream n, r ≠ .construct stream n) : Post (Forward (s.setPort rest)) (step s) := by
  cases r with
  | construct stream n => exact absurd rfl (hr stream n)
  | command n => rw [step_command h]; exact exec_forward _ _
  | bitSource q => rw [step_bitSource h]; exact exec_forward _ _
  | element k =>
    cases hd : s.decodeAt k with
    | ok i => rw [step_element_ok h hd]; exact exec_forward _ _
    | error e => rw [step_element_error h hd]; exact forward_live (forward_raise e _)

end Sys2Proof.Machine
end

section
/-! The elements of whole octets: those of `decode_marker` and `decode_metadata`, and the CRC-16 of a frame. -/

namespace Sys2Proof

/-- The kinds whose elements are whole octets and write no register or cell of a frame. -/
def Kind.isOctets : Kind → Bool
  | .marker | .metaHdr | .streaminfoBody | .skippedBody | .crc16 => true
  | _ => false

end Sys2Proof

namespace Sys2Proof.Machine

/-- From `s` to `t` whole octets were read (R65), and neither the registers nor the cells of a frame were written. -/
structure ReadsOctets (s t : State) : Prop where
  frame : t = { s with
    bitpos := t.bitpos, draw := t.draw, decState := t.decState, si := t.si, siValid := t.siValid, coef := t.coef,
    lpcPrec := t.lpcPrec, lpcShift := t.lpcShift, work := t.work }
  octets : t.bitpos % 8 = s.bitpos % 8

section
variable {s t u : State}

theorem ReadsOctets.trans (h₁ : ReadsOctets s t) (h₂ : ReadsOctets t u) : ReadsOctets s u where
  frame := h₂.frame.trans (by rw [h₁.frame])
  octets := h₂.octets.trans h₁.octets

/-- `F_*`, `F_VALID` and every cell of `SB` stay (R28, R29). -/
theorem ReadsOctets.keeps_frame (h : ReadsOctets s t) :
    t.fr = s.fr ∧ t.frValid = s.frValid ∧ ∀ c i, t.cell c i = s.cell c i := by
  rw [h.frame]
  exact ⟨rfl, rfl, fun _ _ => rfl⟩

/-- A read of whole octets, and what follows it. -/
theorem readsOctets_consume {n : Nat} {f : State → Out} (hn : n % 8 = 0)
    (hf : ∀ u, Post (fun t => t.fault = false → ReadsOctets u t) (f u)) :
    Post (fun t => t.fault = false → ReadsOctets s t) (consume n s f) := by
  refine post_consume (fun h => by cases h) fun _ => (hf _).mono fun t ht hl => .trans ⟨rfl, ?_⟩ (ht hl)
  show (s.bitpos + n) % 8 = s.bitpos % 8
  omega

theorem readsOctets_live {f : State → Out} (hf : Post (fun t => t.fault = false → ReadsOctets s t) (f s)) :
    Post (fun t => t.fault = false → ReadsOctets s t) (live s f) :=
  post_live (fun h h' => by simp [h] at h') fun _ => hf

theorem readsOctets_element {n : Nat} {f : State → Out} (hn : n % 8 = 0)
    (hf : ∀ u, Post (fun t => t.fault = false → ReadsOctets u t) (f u)) :
    Post (fun t => t.fault = false → ReadsOctets s t) (element n s f) := readsOctets_live (readsOctets_consume hn hf)

theorem readsOctets_raise (r : Raise) (s : State) :
    Post (fun t => t.fault = false → ReadsOctets s t) (raise r s) := post_raise r s fun h => by cases h

theorem readsOctets_next (h : ReadsOctets s t) : Post (fun t => t.fault = false → ReadsOctets s t) (.next t) :=
  (post_next _ _).2 fun _ => h

end

/-- The skipped body is `length` octets; a STREAMINFO body may fault behind its bits; the others read and go on. -/
theorem execLeaf_readsOctets {i : Instr} {k : Kind} (hk : i.kind? = some k) (ho : k.isOctets = true) (s : State) :
    Post (fun t => t.fault = false → ReadsOctets s t) (execLeaf i s) := by
  cases i <;> cases hk <;> cases ho
  case skippedBody length =>
    show Post _ (live s fun s => skipBytes length.toNat s)
    exact readsOctets_live (readsOctets_consume (Nat.mul_mod_right 8 _) fun _ => readsOctets_next ⟨rfl, rfl⟩)
  case streaminfoBody =>
    refine readsOctets_element rfl fun u => ?_
    split
    · exact readsOctets_raise _ u
    · split
      · exact readsOctets_raise _ u
      · exact readsOctets_next ⟨rfl, rfl⟩
  all_goals exact readsOctets_element rfl fun _ => readsOctets_next ⟨rfl, rfl⟩

theorem runLeaf_readsOctets {k : Kind} (ho : k.isOctets = true) (s : State) :
    Post (fun t => t.fault = false → ReadsOctets s t) (runLeaf k s) := by
  refine readsOctets_live ?_
  cases hd : s.decodeAt k with
  | ok i => exact execLeaf_readsOctets (yields_decodeElem _ k _ i hd) ho s
  | error r => exact readsOctets_raise r s

/-- The padding ends at a byte boundary (R109, R133). -/
theorem padding_aligns (s : State) : Post (fun t => t.fault = false → t.bitpos % 8 = 0) (runLeaf .padding s) := by
  refine post_live (fun h h' => by simp [h] at h') fun hl => ?_
  cases hd : s.decodeAt .padding with
  | error r => exact post_raise r s fun h => by cases h
  | ok i =>
    simp only [State.decodeAt, decodeElem, whole] at hd
    split_ifs at hd
    cases hd
    show Post _ (live s fun s => .next s.align)
    rw [live_ok _ hl, post_next]
    intro _
    simp only [State.align_bitpos, padWidth]
    omega

/-- A frame ends at a byte boundary: the CRC-16 behind the padding is two octets (R109, R275). -/
theorem frameEnd_aligned (s : State) : Post (fun t => t.fault = false → t.bitpos % 8 = 0) (frameEnd s) :=
  post_seq (padding_aligns s) (fun _ _ hf hl => by simp [hf] at hl) fun _ hpad hl =>
    (runLeaf_readsOctets (k := .crc16) rfl _).mono fun _ ht htl => (ht htl).octets.trans (hpad hl)

end Sys2Proof.Machine
end

section
/-! What a command that returned `OK` has done, said once for each of the three; O22 and O24 from it. -/

namespace Sys2Proof.Machine

section
variable {s t : State}

/-- A command that took no fault was legal and live, so its body ran. -/
theorem command_eq_next_ok {c : Command} {f : State → Out} (h : command c s f = .next t) (ht : t.fault = false) :
    f s = .next t := by
  simp only [command, live] at h
  split_ifs at h with hl
  · cases h; simp [ht] at hl
  · exact h
  · cases h; cases ht

theorem Runs.goes {p : Prop} {Q : State → Prop} {o : Out} (h : Runs p s Q o) (ho : o = .next t)
    (ht : t.fault = false) : Goes s t := (h.advances t ho).goes ht

theorem execDecodeMarker_ok (h : execDecodeMarker s = .next t) (ht : t.fault = false) :
    ∃ u, Goes s u ∧ ReadsOctets s u ∧ t = (u.setDecState .hasMarker).finish := by
  obtain ⟨u, hu, hl, hnext⟩ := seq_eq_next_ok (command_eq_next_ok h ht) ht
  cases hnext
  exact ⟨u, (plainLeaf_runs (p := False) (k := .marker) rfl s).goes hu hl, runLeaf_readsOctets rfl s u hu hl, rfl⟩

theorem execDecodeMarker_readsOctets (h : execDecodeMarker s = .next t) (ht : t.fault = false) :
    ReadsOctets s t := by
  obtain ⟨u, -, hu, rfl⟩ := execDecodeMarker_ok h ht
  exact hu.trans ⟨rfl, rfl⟩

theorem metadataBody_readsOctets (s : State) :
    Post (fun t => t.fault = false → ReadsOctets s t) (metadataBody s) := by
  unfold metadataBody
  split <;> exact runLeaf_readsOctets rfl s

theorem execDecodeMetadata_readsOctets (h : execDecodeMetadata s = .next t) (ht : t.fault = false) :
    ReadsOctets s t := by
  obtain ⟨u, hu, hul, hrest⟩ := seq_eq_next_ok (command_eq_next_ok h ht) ht
  obtain ⟨v, hv, hvl, hnext⟩ := seq_eq_next_ok hrest ht
  cases hnext
  refine ((runLeaf_readsOctets rfl s u hu hul).trans (metadataBody_readsOctets u v hv hvl)).trans ?_
  split <;> exact ⟨rfl, rfl⟩

/-- Behind the header's registers a frame goes on, to a byte boundary. -/
theorem frameBody_ok (h : frameBody s = .next t) (ht : t.fault = false) : Goes s t ∧ t.bitpos % 8 = 0 := by
  refine ⟨(frameBody_runs (p := False) False.elim).goes h ht, ?_⟩
  obtain ⟨u, -, -, hu⟩ := seq_eq_next_ok h ht
  obtain ⟨v, -, -, hend⟩ := seq_eq_next_ok hu ht
  exact frameEnd_aligned v t hend ht

theorem decodeFrame_ok (h : decodeFrame s = .next t) (ht : t.fault = false) :
    ∃ u f, Goes s u ∧ Goes (u.setFrameRegs f) t ∧ t.bitpos % 8 = 0 := by
  rw [decodeFrame_eq] at h
  have hfields := headerFields_runs (p := False) s
  obtain ⟨u, hu, hul, hrest⟩ := seq_eq_next_ok h ht
  rcases frame_after_header (hfields.ensures u hu hul) hul with ⟨r, hr⟩ | ⟨f, -, hw⟩
  · rw [hr] at hrest
    cases hrest
    cases ht
  · rw [hw] at hrest
    exact ⟨u, f, hfields.goes hu hul, frameBody_ok hrest ht⟩

/-- Either the stream was at its end, or a frame was decoded. -/
theorem execDecodeAudio_ok (h : execDecodeAudio s = .next t) (ht : t.fault = false) :
    t = ((s.setFrValid false).setDecState .complete).finish ∨
      ∃ u f v, Goes (s.setFrValid false) u ∧ Goes (u.setFrameRegs f) v ∧ v.bitpos % 8 = 0 ∧
        t = (v.setFrValid true).finish := by
  have hbody := command_eq_next_ok h ht
  simp only at hbody
  split at hbody
  · cases hbody
    exact .inl rfl
  · obtain ⟨v, hv, hvl, hnext⟩ := seq_eq_next_ok hbody ht
    cases hnext
    obtain ⟨u, f, hu, hregs, halign⟩ := decodeFrame_ok hv hvl
    exact .inr ⟨u, f, v, hu, hregs, halign, rfl⟩

/-! ## Byte boundaries -/

/-- A command that returned `OK` ends at a byte boundary if it began at one (R65). -/
theorem decodeCommand_aligned {n : BitVec 2} (h : exec (decodeCommand n) s = .next t) (ht : t.fault = false)
    (hs : s.bitpos % 8 = 0) : t.bitpos % 8 = 0 := by
  unfold decodeCommand at h
  split_ifs at h
  · exact (execDecodeMarker_readsOctets h ht).octets.trans hs
  · exact (execDecodeMetadata_readsOctets h ht).octets.trans hs
  · rcases execDecodeAudio_ok h ht with rfl | ⟨_, _, v, _, _, halign, rfl⟩
    · exact hs
    · exact halign
  · cases h

end

/-- Settles O22: a step moves `BITPOS` forward (`step_forward`), and each command is whole octets or ends with a
frame's padding. -/
theorem bitposOnlyIncreases : Obligations.BitposOnlyIncreases := by
  intro s t r rest hport hstep ht hr hpos
  obtain ⟨hle, hL⟩ := (step_forward hport hr t hstep).bitpos ht hpos
  refine ⟨hle, hL, ?_⟩
  rintro n rfl halign
  rw [step_command hport] at hstep
  exact decodeCommand_aligned hstep ht halign

/-! ## The register groups -/

theorem execDecodeMarker_si {s t : State} (h : execDecodeMarker s = .next t) (ht : t.fault = false) :
    t.si = s.si ∧ t.siValid = s.siValid := by
  obtain ⟨u, hu, -, rfl⟩ := execDecodeMarker_ok h ht
  exact ⟨hu.si, hu.siValid⟩

theorem execDecodeAudio_si {s t : State} (h : execDecodeAudio s = .next t) (ht : t.fault = false) :
    t.si = s.si ∧ t.siValid = s.siValid := by
  rcases execDecodeAudio_ok h ht with rfl | ⟨u, f, v, hu, hv, -, rfl⟩
  · exact ⟨rfl, rfl⟩
  · exact ⟨hv.si.trans hu.si, hv.siValid.trans hu.siValid⟩

/-- Settles O24: the parameters by `exec_forward`, each group by what a command that returned `OK` has done. -/
theorem eachGroupHasItsCommand : Obligations.EachGroupHasItsCommand := by
  refine ⟨fun i s t h => ?_, fun i s t hi h ht => ?_, fun i s t hi h ht => ?_⟩
  · have hfwd := exec_forward i s t h
    exact ⟨hfwd.stream, hfwd.capacity⟩
  · simp only [List.mem_cons, List.not_mem_nil, or_false] at hi
    rcases hi with rfl | rfl
    · exact execDecodeMarker_si h ht
    · exact execDecodeAudio_si h ht
  · simp only [List.mem_cons, List.not_mem_nil, or_false] at hi
    rcases hi with rfl | rfl
    · exact (execDecodeMarker_readsOctets h ht).keeps_frame
    · exact (execDecodeMetadata_readsOctets h ht).keeps_frame

end Sys2Proof.Machine
end

section
/-! The bits of the stream, and `decode_audio` at its end: O1 and O30. -/

namespace Sys2Proof

/-- One more bit at the end doubles the weight of every bit before it. -/
theorem memRead_eq_sum (bytes : List Byte) (p n : Nat) :
    memRead bytes p n = ∑ t ∈ Finset.range n, (bitAt bytes (p + t)).toNat * 2 ^ (n - 1 - t) := by
  induction n with
  | zero => simp
  | succ n ih =>
    have hweight : ∀ t ∈ Finset.range n, 2 * ((bitAt bytes (p + t)).toNat * 2 ^ (n - 1 - t)) =
        (bitAt bytes (p + t)).toNat * 2 ^ (n - t) := by
      intro t ht
      have hexp : n - t = n - 1 - t + 1 := by have := Finset.mem_range.1 ht; omega
      rw [hexp, pow_succ]
      ring
    rw [memRead_succ, ih, Finset.mul_sum, Finset.sum_congr rfl hweight, Finset.sum_range_succ]
    simp

/-- Settles O1: the bit by its definition, the field by `memRead_eq_sum`. -/
theorem fieldIsMsbFirstSum : Obligations.FieldIsMsbFirstSum := fun bytes p n => ⟨rfl, memRead_eq_sum bytes p n⟩

end Sys2Proof

namespace Sys2Proof.Machine

/-- A live command that is legal in its state runs its body (R150). -/
theorem command_eq_body {c : Command} {s : State} (f : State → Out) (hf : s.fault = false)
    (hc : legal c s.decState = true) : command c s f = f s :=
  (live_ok _ hf).trans (if_pos hc)

/-- The return of a command frees only what `Returns` leaves open (R30, R31). -/
theorem returns_finish (u : State) : Returns (.next u.finish) u := ⟨u.finish, rfl, rfl⟩

/-- The branch of R158 without a frame. -/
theorem execDecodeAudio_of_eos {s : State} (hf : s.fault = false) (hc : legal .decodeAudio s.decState = true)
    (he : s.eos = true) : execDecodeAudio s = .next ((s.setFrValid false).setDecState .complete).finish := by
  have hclear : (s.setFrValid false).eos = true := he
  rw [execDecodeAudio, command_eq_body _ hf hc]
  exact if_pos hclear

/-- Settles O30: `decode_audio` is legal in both states, and at the end of the stream it only returns. -/
theorem decodeAudioAtTheEnd : Obligations.DecodeAudioAtTheEnd := by
  intro s hf hstate hpos
  have hlegal : legal .decodeAudio s.decState = true := by
    rcases hstate with h | h <;> rw [h] <;> rfl
  have heos : s.eos = true := decide_eq_true hpos
  have hrun : exec .decodeAudio s = .next ((s.setFrValid false).setDecState .complete).finish :=
    execDecodeAudio_of_eos hf hlegal heos
  rw [hrun]
  exact returns_finish _

end Sys2Proof.Machine
end

section
/-! Holding the bits of a field and reading the field back are one thing: the layouts of R91 to R109 used in both
directions. -/

namespace Sys2Proof

/-! ## Fields, bits and unary counts in a byte string -/

section
variable {bytes : List Byte} {p n v : Nat}

/-- The bits of a field are the bits of the stream, the first the most significant (R5). -/
theorem testBit_memRead {i : Nat} (hi : i < n) : (memRead bytes p n).testBit (n - 1 - i) = bitAt bytes (p + i) := by
  induction n with
  | zero => omega
  | succ n ih =>
    rw [memRead_succ]
    rcases Nat.lt_succ_iff_lt_or_eq.1 hi with hlt | rfl
    · have hidx : n + 1 - 1 - i = n - 1 - i + 1 := by omega
      rw [hidx, Nat.testBit_succ, ← ih hlt]
      congr 1
      have := Bool.toNat_lt (bitAt bytes (p + n))
      omega
    · cases hb : bitAt bytes (p + i) <;> simp

theorem carries_bitsOf_iff :
    carries bytes p (bitsOf n v) ↔ p + n ≤ 8 * bytes.length ∧ memRead bytes p n = v % 2 ^ n := by
  refine ⟨fun h => ⟨by simpa using h.bound, memRead_of_carries h⟩, fun ⟨hb, hv⟩ => ⟨by simpa using hb, fun i hi => ?_⟩⟩
  rw [length_bitsOf] at hi
  have hlt : n - 1 - i < n := by omega
  rw [getD_bitsOf hi, ← testBit_memRead hi, hv, Nat.testBit_mod_two_pow]
  simp [hlt]

theorem carries_bit_iff {x : Bool} : carries bytes p [x] ↔ p + 1 ≤ 8 * bytes.length ∧ bitAt bytes p = x := by
  refine ⟨fun h => ⟨h.bound, bitAt_of_carries h⟩, fun ⟨hb, hx⟩ => ⟨hb, fun i hi => ?_⟩⟩
  obtain rfl : i = 0 := by simpa using hi
  simpa using hx

/-- Zero bits up to a 1 bit inside the stream are a unary count. -/
theorem carries_unaryBits {q : Nat} (hb : p + (q + 1) ≤ 8 * bytes.length) (hz : ∀ i, i < q → bitAt bytes (p + i) = false)
    (ho : bitAt bytes (p + q) = true) : carries bytes p (unaryBits q) := by
  refine carries_append.2 ⟨⟨?_, fun i hi => ?_⟩, carries_bit_iff.2 ⟨?_, ?_⟩⟩
  · simp only [List.length_replicate]; omega
  · rw [List.length_replicate] at hi
    rw [hz i hi, List.getD_replicate _ hi]
  · simp only [List.length_replicate]; omega
  · simpa using ho

end

/-! ## What an element holds at an offset -/

/-- The stream holds `bits` at bit offset `off` of the element that starts here. -/
def BitSrc.holds (b : BitSrc) (off : Nat) (bits : List Bool) : Prop := carries b.bytes (b.pos + off) bits

section
variable {b : BitSrc} {off n : Nat}

theorem BitSrc.has_iff : b.has n = true ↔ b.pos + n ≤ 8 * b.bytes.length := decide_eq_true_iff

theorem BitSrc.has_mono {m : Nat} (h : b.has n = true) (hm : m ≤ n) : b.has m = true := by
  rw [BitSrc.has_iff] at h ⊢
  omega

theorem BitSrc.field_lt : b.field off n < 2 ^ n := memRead_lt _ _ _

theorem BitSrc.toNat_bits : (b.bits off n).toNat = b.field off n := by
  rw [BitSrc.bits, BitVec.toNat_ofNat, Nat.mod_eq_of_lt BitSrc.field_lt]

/-- The leading `m` bits of a field are `v` exactly if the field lies between the multiples of `2^n` (R96). -/
theorem BitSrc.field_prefix_iff (b : BitSrc) {w : Nat} (m n v : Nat) (hw : w = m + n) :
    b.field 0 m = v ↔ v * 2 ^ n ≤ b.field 0 w ∧ b.field 0 w < (v + 1) * 2 ^ n := by
  subst hw
  have hsplit : b.field 0 (m + n) = b.field 0 m * 2 ^ n + b.field m n := memRead_split _ _ _ _
  have hlt : b.field m n < 2 ^ n := BitSrc.field_lt
  have hdiv : b.field 0 (m + n) / 2 ^ n = b.field 0 m := by
    rw [hsplit, Nat.mul_comm, Nat.mul_add_div (by positivity), Nat.div_eq_of_lt hlt, Nat.add_zero]
  rw [← hdiv, Nat.div_eq_iff (by positivity)]
  have : (v + 1) * 2 ^ n = v * 2 ^ n + 2 ^ n := by ring
  have : 0 < 2 ^ n := by positivity
  omega

theorem BitSrc.holds_append {xs ys : List Bool} :
    b.holds off (xs ++ ys) ↔ b.holds off xs ∧ b.holds (off + xs.length) ys := by
  rw [BitSrc.holds, carries_append, Nat.add_assoc]
  rfl

theorem BitSrc.holds_cons {x : Bool} {bits : List Bool} :
    b.holds off (x :: bits) ↔ b.holds off [x] ∧ b.holds (off + 1) bits := BitSrc.holds_append (xs := [x])

theorem BitSrc.holds_bit {x : Bool} : b.holds off [x] ↔ b.has (off + 1) = true ∧ b.flag off = x := by
  rw [BitSrc.holds, carries_bit_iff, BitSrc.has_iff, Nat.add_assoc]
  rfl

theorem BitSrc.holds_bitsOf {v : Nat} (hv : v < 2 ^ n) :
    b.holds off (bitsOf n v) ↔ b.has (off + n) = true ∧ b.field off n = v := by
  rw [BitSrc.holds, carries_bitsOf_iff, BitSrc.has_iff, Nat.add_assoc, Nat.mod_eq_of_lt hv]
  rfl

theorem BitSrc.holds_bits {x : BitVec n} :
    b.holds off (bitsOf n x.toNat) ↔ b.has (off + n) = true ∧ b.bits off n = x := by
  rw [BitSrc.holds_bitsOf x.isLt, ← BitVec.toNat_inj, BitSrc.toNat_bits]

theorem BitSrc.unary_eq_some_iff {q : Nat} : b.unary = some q ↔ b.holds 0 (unaryBits q) := by
  refine ⟨fun h => ?_, unary_of_carries⟩
  obtain ⟨hlt, hz, ho⟩ := countZeros_eq_some h
  simp only [BitSrc.total] at hlt
  exact carries_unaryBits (by simp only [Nat.add_zero]; omega) hz ho

theorem BitSrc.has_of_holds {bits : List Bool} (h : b.holds off bits) : b.has (off + bits.length) = true := by
  rw [BitSrc.has_iff, ← Nat.add_assoc]
  exact h.bound

theorem whole_eq_ok {i j : Instr} : whole n b i = .ok j ↔ b.has n = true ∧ i = j := by
  unfold whole
  split
  · next h => simp [h]
  · next h => simp [h]

end

end Sys2Proof
end

section
/-! The layouts row by row: what it means that the bits of an element are held, for the rows of every code table and for
every element with fields. -/

namespace Sys2Proof

/-! ## Code tables -/

/-- The rows of an `n`-bit code are encoded as their number. -/
def EncodesRows (n : Nat) (row : Nat → Instr) : Prop := ∀ v, v < 2 ^ n → encode (row v) = bitsOf n v

theorem encodesRows_bsCode : EncodesRows 4 bsCodeRow := by unfold EncodesRows; decide
theorem encodesRows_srCode : EncodesRows 4 srCodeRow := by unfold EncodesRows; decide
theorem encodesRows_caCode : EncodesRows 4 caCodeRow := by unfold EncodesRows; decide
theorem encodesRows_ssCode : EncodesRows 3 ssCodeRow := by unfold EncodesRows; decide
theorem encodesRows_param4 : EncodesRows 4 param4Row := by unfold EncodesRows; decide
theorem encodesRows_param5 : EncodesRows 5 param5Row := by unfold EncodesRows; decide

section
variable {b : BitSrc} {n v : Nat} {i : Instr} {row : Nat → Instr}

theorem decode_row (row : Nat → Instr) (hv : v < 2 ^ n) (h : b.holds 0 (bitsOf n v)) :
    whole n b (row (b.field 0 n)) = .ok (row v) := by
  obtain ⟨hhas, hfield⟩ := (BitSrc.holds_bitsOf hv).1 h
  rw [whole_eq_ok, hfield]
  exact ⟨by simpa using hhas, rfl⟩

theorem holds_decoded_row (hrow : EncodesRows n row) (h : whole n b (row (b.field 0 n)) = .ok i) :
    b.holds 0 (encode i) := by
  obtain ⟨hhas, rfl⟩ := whole_eq_ok.1 h
  rw [hrow _ BitSrc.field_lt, BitSrc.holds_bitsOf BitSrc.field_lt]
  exact ⟨by simpa using hhas, rfl⟩

end

/-! ## Elements that are one field -/

section
variable {b : BitSrc} {n : Nat} {i : Instr}

theorem decode_bits (mk : BitVec n → Instr) {x : BitVec n} (h : b.holds 0 (bitsOf n x.toNat)) :
    whole n b (mk (b.bits 0 n)) = .ok (mk x) := by
  obtain ⟨hhas, hbits⟩ := BitSrc.holds_bits.1 h
  rw [whole_eq_ok, hbits]
  exact ⟨by simpa using hhas, rfl⟩

theorem holds_decoded_bits (mk : BitVec n → Instr) (henc : ∀ x, encode (mk x) = bitsOf n x.toNat)
    (h : whole n b (mk (b.bits 0 n)) = .ok i) : b.holds 0 (encode i) := by
  obtain ⟨hhas, rfl⟩ := whole_eq_ok.1 h
  rw [henc, BitSrc.holds_bits]
  exact ⟨by simpa using hhas, rfl⟩

theorem decode_signed (mk : Int → Instr) {v : Int} (hv : fitsSigned n v = true) (h : b.holds 0 (signedBits n v)) :
    whole n b (mk (sext n (b.field 0 n))) = .ok (mk v) := by
  have hhas := BitSrc.has_of_holds h
  rw [length_signedBits, Nat.zero_add] at hhas
  rw [whole_eq_ok]
  exact ⟨hhas, congrArg mk (sext_of_carries h hv)⟩

/-- The value read from a field fits it. -/
theorem fitsSigned_sext {v : Nat} (hv : v < 2 ^ n) : fitsSigned n (sext n v) = true := by
  unfold fitsSigned
  split
  · next h0 => subst h0; rfl
  · next h0 =>
    obtain ⟨hlo, hhi⟩ := sext_bounds (Nat.pos_of_ne_zero h0) hv
    simp [hlo, hhi]

/-- The pattern of the value read from a field is the field. -/
theorem signedBits_sext {v : Nat} (hv : v < 2 ^ n) : signedBits n (sext n v) = bitsOf n v := by
  have hmod : (sext n v % 2 ^ n).toNat = v := by
    have hcast : ((v : Nat) : Int) < 2 ^ n := by exact_mod_cast hv
    unfold sext
    split_ifs with h0 h1
    · subst h0; simp at hv ⊢; omega
    · rw [Int.emod_eq_of_lt (by omega) hcast, Int.toNat_natCast]
    · rw [Int.sub_emod_right, Int.emod_eq_of_lt (by omega) hcast, Int.toNat_natCast]
  rw [signedBits, hmod]

theorem holds_decoded_signed (mk : Int → Instr) (henc : ∀ v, encode (mk v) = signedBits n v)
    (h : whole n b (mk (sext n (b.field 0 n))) = .ok i) : b.holds 0 (encode i) := by
  obtain ⟨hhas, rfl⟩ := whole_eq_ok.1 h
  rw [henc, signedBits_sext BitSrc.field_lt, BitSrc.holds_bitsOf BitSrc.field_lt]
  exact ⟨by simpa using hhas, rfl⟩

end

/-! ## Elements of several fields -/

section
variable {b : BitSrc}

theorem holds_pair_iff {m n v : Nat} {x : BitVec n} (hv : v < 2 ^ m) :
    b.holds 0 (bitsOf m v ++ bitsOf n x.toNat) ↔ b.has (m + n) = true ∧ b.field 0 m = v ∧ b.bits m n = x := by
  rw [BitSrc.holds_append, BitSrc.holds_bitsOf hv, length_bitsOf, BitSrc.holds_bits, Nat.zero_add]
  exact ⟨fun ⟨⟨_, h₁⟩, hhas, h₂⟩ => ⟨hhas, h₁, h₂⟩,
    fun ⟨hhas, h₁, h₂⟩ => ⟨⟨BitSrc.has_mono hhas (by omega), h₁⟩, hhas, h₂⟩⟩

theorem holds_triple_iff {m n k v : Nat} {x : BitVec n} {y : BitVec k} (hv : v < 2 ^ m) :
    b.holds 0 (bitsOf m v ++ bitsOf n x.toNat ++ bitsOf k y.toNat) ↔
      b.has (m + n + k) = true ∧ b.field 0 m = v ∧ b.bits m n = x ∧ b.bits (m + n) k = y := by
  rw [BitSrc.holds_append, holds_pair_iff hv, List.length_append, length_bitsOf, length_bitsOf, BitSrc.holds_bits,
    Nat.zero_add]
  exact ⟨fun ⟨⟨_, h₁, h₂⟩, hhas, h₃⟩ => ⟨hhas, h₁, h₂, h₃⟩,
    fun ⟨hhas, h₁, h₂, h₃⟩ => ⟨⟨BitSrc.has_mono hhas (by omega), h₁, h₂⟩, hhas, h₃⟩⟩

theorem holds_flagged_iff {x : Bool} {n v : Nat} (hv : v < 2 ^ n) :
    b.holds 0 (x :: bitsOf n v) ↔ b.has (n + 1) = true ∧ b.flag 0 = x ∧ b.field 1 n = v := by
  rw [BitSrc.holds_cons, BitSrc.holds_bit, BitSrc.holds_bitsOf hv, Nat.zero_add, Nat.add_comm 1 n]
  exact ⟨fun ⟨⟨_, h₁⟩, hhas, h₂⟩ => ⟨hhas, h₁, h₂⟩,
    fun ⟨hhas, h₁, h₂⟩ => ⟨⟨BitSrc.has_mono hhas (by omega), h₁⟩, hhas, h₂⟩⟩

theorem holds_metaHdr_iff {last : Bool} {type : Nat} {length : BitVec 24} (ht : type < 2 ^ 7) :
    b.holds 0 (last :: bitsOf 7 type ++ bitsOf 24 length.toNat) ↔
      b.has 32 = true ∧ b.flag 0 = last ∧ b.field 1 7 = type ∧ b.bits 8 24 = length := by
  rw [BitSrc.holds_append, holds_flagged_iff ht, List.length_cons, length_bitsOf, BitSrc.holds_bits]
  exact ⟨fun ⟨⟨_, h₁, h₂⟩, hhas, h₃⟩ => ⟨hhas, h₁, h₂, h₃⟩,
    fun ⟨hhas, h₁, h₂, h₃⟩ => ⟨⟨BitSrc.has_mono hhas (by decide), h₁, h₂⟩, hhas, h₃⟩⟩

theorem holds_subframeHdr_iff {zero wasted : Bool} {type : Nat} (ht : type < 2 ^ 6) :
    b.holds 0 (zero :: bitsOf 6 type ++ [wasted]) ↔
      b.has 8 = true ∧ b.flag 0 = zero ∧ b.field 1 6 = type ∧ b.flag 7 = wasted := by
  rw [BitSrc.holds_append, holds_flagged_iff ht, List.length_cons, length_bitsOf, BitSrc.holds_bit]
  exact ⟨fun ⟨⟨_, h₁, h₂⟩, hhas, h₃⟩ => ⟨hhas, h₁, h₂, h₃⟩,
    fun ⟨hhas, h₁, h₂, h₃⟩ => ⟨⟨BitSrc.has_mono hhas (by decide), h₁, h₂⟩, hhas, h₃⟩⟩

theorem holds_streaminfo_iff {minBlock maxBlock : BitVec 16} {minFrame maxFrame : BitVec 24} {rate : BitVec 20}
    {channelsMinus1 : BitVec 3} {bpsMinus1 : BitVec 5} {total : BitVec 36} {md5 : BitVec 128} :
    b.holds 0 (encode (.streaminfoBody minBlock maxBlock minFrame maxFrame rate channelsMinus1 bpsMinus1 total md5)) ↔
      b.has 272 = true ∧ b.bits 0 16 = minBlock ∧ b.bits 16 16 = maxBlock ∧ b.bits 32 24 = minFrame ∧
      b.bits 56 24 = maxFrame ∧ b.bits 80 20 = rate ∧ b.bits 100 3 = channelsMinus1 ∧ b.bits 103 5 = bpsMinus1 ∧
      b.bits 108 36 = total ∧ b.bits 144 128 = md5 := by
  simp only [encode, BitSrc.holds_append, BitSrc.holds_bits, List.length_append, length_bitsOf, Nat.reduceAdd]
  constructor
  · rintro ⟨⟨⟨⟨⟨⟨⟨⟨⟨-, h₁⟩, -, h₂⟩, -, h₃⟩, -, h₄⟩, -, h₅⟩, -, h₆⟩, -, h₇⟩, -, h₈⟩, hhas, h₉⟩
    exact ⟨hhas, h₁, h₂, h₃, h₄, h₅, h₆, h₇, h₈, h₉⟩
  · rintro ⟨hhas, h₁, h₂, h₃, h₄, h₅, h₆, h₇, h₈, h₉⟩
    have hle : ∀ n, n ≤ 272 → b.has n = true := fun n => BitSrc.has_mono hhas
    exact ⟨⟨⟨⟨⟨⟨⟨⟨⟨hle _ (by decide), h₁⟩, hle _ (by decide), h₂⟩, hle _ (by decide), h₃⟩, hle _ (by decide), h₄⟩,
      hle _ (by decide), h₅⟩, hle _ (by decide), h₆⟩, hle _ (by decide), h₇⟩, hle _ (by decide), h₈⟩, hhas, h₉⟩

theorem holds_preamble_iff {strategy : Bool} {bs sr ca : BitVec 4} {ss : BitVec 3} :
    b.holds 0 (encode (.framePreamble strategy bs sr ca ss)) ↔
      b.has 32 = true ∧ b.field 0 14 = Config.sync ∧ b.flag 14 = false ∧ b.flag 15 = strategy ∧ b.bits 16 4 = bs ∧
      b.bits 20 4 = sr ∧ b.bits 24 4 = ca ∧ b.bits 28 3 = ss ∧ b.flag 31 = false := by
  have hsync : Config.sync < 2 ^ 14 := by decide
  simp only [encode, BitSrc.holds_append, BitSrc.holds_cons (bits := _ :: _), BitSrc.holds_cons (bits := bitsOf _ _),
    BitSrc.holds_bitsOf hsync, BitSrc.holds_bit, BitSrc.holds_bits, List.length_append, List.length_cons, length_bitsOf,
    Nat.reduceAdd]
  constructor
  · rintro ⟨⟨⟨⟨⟨⟨-, h₁⟩, ⟨-, h₂⟩, ⟨-, h₃⟩, -, h₄⟩, -, h₅⟩, -, h₆⟩, -, h₇⟩, hhas, h₈⟩
    exact ⟨hhas, h₁, h₂, h₃, h₄, h₅, h₆, h₇, h₈⟩
  · rintro ⟨hhas, h₁, h₂, h₃, h₄, h₅, h₆, h₇, h₈⟩
    have hle : ∀ n, n ≤ 32 → b.has n = true := fun n => BitSrc.has_mono hhas
    exact ⟨⟨⟨⟨⟨⟨hle _ (by decide), h₁⟩, ⟨hle _ (by decide), h₂⟩, ⟨hle _ (by decide), h₃⟩, hle _ (by decide), h₄⟩,
      hle _ (by decide), h₅⟩, hle _ (by decide), h₆⟩, hle _ (by decide), h₇⟩, hhas, h₈⟩

/-- A unary count and a field right behind it (R108). -/
theorem holds_riceWord_iff {k q r : Nat} (hr : r < 2 ^ k) :
    b.holds 0 (unaryBits q ++ bitsOf k r) ↔
      b.has (q + 1 + k) = true ∧ b.unary = some q ∧ b.field (q + 1) k = r := by
  rw [BitSrc.holds_append, ← BitSrc.unary_eq_some_iff, length_unaryBits, BitSrc.holds_bitsOf hr, Nat.zero_add]
  tauto

end

/-! ## The rows of the metadata header and the subframe header -/

/-- The low bits of a number behind a multiple of their range. -/
theorem ofNat_add_toNat {n m : Nat} (x : BitVec n) (hm : m % 2 ^ n = 0) : BitVec.ofNat n (m + x.toNat) = x := by
  apply BitVec.eq_of_toNat_eq
  rw [BitVec.toNat_ofNat, Nat.add_mod, hm, Nat.zero_add, Nat.mod_mod, Nat.mod_eq_of_lt x.isLt]

/-- The seven rows behind type 0 are the types with their highest bit named (R118). -/
theorem metaRow_skip (last : Bool) (length : BitVec 24) :
    metaRow last 1 length = .metaSkip0 last length ∧
    (∀ low : BitVec 1, metaRow last (2 + low.toNat) length = .metaSkip1 last low length) ∧
    (∀ low : BitVec 2, metaRow last (4 + low.toNat) length = .metaSkip2 last low length) ∧
    (∀ low : BitVec 3, metaRow last (8 + low.toNat) length = .metaSkip3 last low length) ∧
    (∀ low : BitVec 4, metaRow last (16 + low.toNat) length = .metaSkip4 last low length) ∧
    (∀ low : BitVec 5, metaRow last (32 + low.toNat) length = .metaSkip5 last low length) ∧
    (∀ low : BitVec 6, metaRow last (64 + low.toNat) length = .metaSkip6 last low length) := by
  refine ⟨rfl, fun low => ?_, fun low => ?_, fun low => ?_, fun low => ?_, fun low => ?_, fun low => ?_⟩
  all_goals
    have hlow := low.isLt
    unfold metaRow
    repeat rw [if_neg (by omega)]
  on_goal 6 => rw [ofNat_add_toNat low (by decide)]
  all_goals rw [if_pos (by omega), ofNat_add_toNat low (by decide)]

theorem encode_metaRow {last : Bool} {type : Nat} {length : BitVec 24} (ht : type < 2 ^ 7) :
    encode (metaRow last type length) = last :: bitsOf 7 type ++ bitsOf 24 length.toNat := by
  have hrow : ∀ (n m : Nat), m % 2 ^ n = 0 → m ≤ type → type < m + 2 ^ n →
      m + (BitVec.ofNat n type).toNat = type := by
    intro n m hm hlo hhi
    obtain ⟨r, rfl⟩ := Nat.exists_eq_add_of_le hlo
    rw [BitVec.toNat_ofNat, Nat.add_mod, hm, Nat.zero_add, Nat.mod_mod, Nat.mod_eq_of_lt (by omega)]
  unfold metaRow
  split_ifs
  · subst type; rfl
  · obtain rfl : type = 1 := by omega
    rfl
  all_goals
    simp only [encode]
    rw [hrow _ _ (by decide) (by omega) (by omega)]

/-- The rows of the reserved subframe types (R116). -/
theorem subframeReservedRow_rows (zero : Bool) :
    (∀ x : BitVec 1, subframeReservedRow zero (2 + x.toNat) = .subframeReserved2To3 zero x) ∧
    (∀ x : BitVec 2, subframeReservedRow zero (4 + x.toNat) = .subframeReserved4To7 zero x) ∧
    subframeReservedRow zero 13 = .subframeReserved13 zero ∧
    (∀ x : BitVec 1, subframeReservedRow zero (14 + x.toNat) = .subframeReserved14To15 zero x) ∧
    (∀ x : BitVec 4, subframeReservedRow zero (16 + x.toNat) = .subframeReserved16To31 zero x) := by
  refine ⟨fun x => ?_, fun x => ?_, rfl, fun x => ?_, fun x => ?_⟩
  all_goals
    have hx := x.isLt
    unfold subframeReservedRow
    repeat rw [if_neg (by omega)]
  on_goal 4 => rw [Nat.add_sub_cancel_left, BitVec.ofNat_toNat, BitVec.setWidth_eq]
  all_goals rw [if_pos (by omega), Nat.add_sub_cancel_left, BitVec.ofNat_toNat, BitVec.setWidth_eq]

theorem subframeRow_lpc (zero wasted : Bool) (orderMinus1 : BitVec 5) :
    subframeRow zero (32 + orderMinus1.toNat) wasted = .subframeLpc zero orderMinus1 wasted := by
  unfold subframeRow
  repeat rw [if_neg (by omega)]
  rw [Nat.add_sub_cancel_left, BitVec.ofNat_toNat, BitVec.setWidth_eq]

/-- A type in a row whose first is `m`. -/
theorem add_toNat_ofNat_sub {n m type : Nat} (hlo : m ≤ type) (hhi : type < m + 2 ^ n) :
    m + (BitVec.ofNat n (type - m)).toNat = type := by
  rw [BitVec.toNat_ofNat, Nat.mod_eq_of_lt (by omega)]
  omega

theorem encode_subframeReservedRow {zero : Bool} {type : Nat} (hr : subframeReserved type = true) :
    encode (subframeReservedRow zero type) = zero :: bitsOf 6 type := by
  simp only [subframeReserved, Bool.or_eq_true, Bool.and_eq_true, decide_eq_true_eq] at hr
  unfold subframeReservedRow
  split_ifs
  on_goal 3 =>
    obtain rfl : type = 13 := by omega
    rfl
  all_goals
    simp only [encode]
    rw [add_toNat_ofNat_sub (by omega) (by omega)]

theorem encode_subframeRow {zero wasted : Bool} {type : Nat} (ht : type < 2 ^ 6)
    (hr : subframeReserved type = false) :
    encode (subframeRow zero type wasted) = zero :: bitsOf 6 type ++ [wasted] := by
  simp only [subframeReserved, Bool.or_eq_false_iff, Bool.and_eq_false_iff, decide_eq_false_iff_not] at hr
  unfold subframeRow
  split_ifs
  on_goal 8 =>
    simp only [encode]
    rw [add_toNat_ofNat_sub (by omega) (by omega)]
  all_goals
    subst type
    rfl

end Sys2Proof
end

section
/-! The decoder gives back what the encoder writes: O7. -/

namespace Sys2Proof

section
variable {b : BitSrc} {c : ElemCtx}

/-! ## The elements with a decoder of their own -/

theorem decode_marker (h : b.holds 0 (encode .marker)) : decodeMarkerElem b = .ok .marker := by
  obtain ⟨hhas, hfield⟩ := (BitSrc.holds_bitsOf (by decide)).1 h
  rw [Nat.zero_add] at hhas
  simp [decodeMarkerElem, hhas, hfield]

theorem decode_metaHdr {last : Bool} {type : Nat} {length : BitVec 24} (ht : type < 2 ^ 7)
    (h : b.holds 0 (last :: bitsOf 7 type ++ bitsOf 24 length.toNat)) :
    decodeElem c .metaHdr b = .ok (metaRow last type length) := by
  obtain ⟨hhas, rfl, rfl, rfl⟩ := (holds_metaHdr_iff ht).1 h
  exact whole_eq_ok.2 ⟨hhas, rfl⟩

theorem decode_streaminfo {n : Nat} {minBlock maxBlock : BitVec 16} {minFrame maxFrame : BitVec 24} {rate : BitVec 20}
    {channelsMinus1 : BitVec 3} {bpsMinus1 : BitVec 5} {total : BitVec 36} {md5 : BitVec 128}
    (h : b.holds 0
      (encode (.streaminfoBody minBlock maxBlock minFrame maxFrame rate channelsMinus1 bpsMinus1 total md5))) :
    decodeStreaminfo n b =
      .ok (.streaminfoBody minBlock maxBlock minFrame maxFrame rate channelsMinus1 bpsMinus1 total md5) := by
  obtain ⟨hhas, rfl, rfl, rfl, rfl, rfl, rfl, rfl, rfl, rfl⟩ := holds_streaminfo_iff.1 h
  exact if_pos hhas

theorem decode_preamble {strategy : Bool} {bs sr ca : BitVec 4} {ss : BitVec 3}
    (h : b.holds 0 (encode (.framePreamble strategy bs sr ca ss))) :
    decodePreamble b = .ok (.framePreamble strategy bs sr ca ss) := by
  obtain ⟨hhas, hsync, hres₁, rfl, rfl, rfl, rfl, rfl, hres₂⟩ := holds_preamble_iff.1 h
  exact if_pos (by simp [hhas, hsync, hres₁, hres₂])

theorem decode_subframeHdr {zero wasted : Bool} {type : Nat} (ht : type < 2 ^ 6)
    (hr : subframeReserved type = false) (h : b.holds 0 (zero :: bitsOf 6 type ++ [wasted])) :
    decodeSubframeHdr b = .ok (subframeRow zero type wasted) := by
  obtain ⟨hhas, rfl, rfl, rfl⟩ := (holds_subframeHdr_iff ht).1 h
  simp [decodeSubframeHdr, BitSrc.has_mono hhas (m := 7) (by decide), hr, whole, hhas]

theorem decode_subframeReserved {zero : Bool} {type : Nat} (ht : type < 2 ^ 6)
    (hr : subframeReserved type = true) (h : b.holds 0 (zero :: bitsOf 6 type)) :
    decodeSubframeHdr b = .ok (subframeReservedRow zero type) := by
  obtain ⟨hhas, rfl, rfl⟩ := (holds_flagged_iff ht).1 h
  simp [decodeSubframeHdr, hhas, hr]

theorem decode_residualMethod {method : Nat} {po : BitVec 4} (hm : method < 2)
    (h : b.holds 0 (bitsOf 2 method ++ bitsOf 4 po.toNat)) :
    decodeResidualHdr b = .ok (if method = 0 then .residualMethod0 po else .residualMethod1 po) := by
  obtain ⟨hhas, hmethod, rfl⟩ := (holds_pair_iff (by omega)).1 h
  rw [decodeResidualHdr, hmethod, if_neg (by simp [BitSrc.has_mono hhas (m := 2) (by decide)]), if_neg (by omega),
    if_neg (by omega)]
  split <;> exact whole_eq_ok.2 ⟨hhas, rfl⟩

theorem decode_residualReserved {method : Nat} (hlo : 2 ≤ method) (hhi : method < 4)
    (h : b.holds 0 (bitsOf 2 method)) :
    decodeResidualHdr b = .ok (if method = 2 then .residualMethod2 else .residualMethod3) := by
  obtain ⟨hhas, hmethod⟩ := (BitSrc.holds_bitsOf hhi).1 h
  rw [decodeResidualHdr, hmethod, if_neg (by simpa using hhas)]
  split
  · rfl
  · rw [if_pos (by omega)]

theorem decode_wastedUnary {w : Nat} (h : b.holds 0 (unaryBits w)) : decodeWastedUnary b = .ok (.wastedUnary w) := by
  rw [decodeWastedUnary, BitSrc.unary_eq_some_iff.2 h]

theorem decode_riceWord {k q r : Nat} (hr : r < 2 ^ k) (h : b.holds 0 (unaryBits q ++ bitsOf k r)) :
    decodeRiceWord k b = .ok (.riceWord k q r) := by
  obtain ⟨hhas, hunary, rfl⟩ := (holds_riceWord_iff hr).1 h
  simp only [decodeRiceWord, hunary]
  exact whole_eq_ok.2 ⟨hhas, rfl⟩

/-! ## The coded number

The leading bits of a row are found as the range of the first byte (R96). -/

theorem decode_codedNumber {i : Instr} (hk : i.kind? = some .codedNumber) (h : b.holds 0 (encode i)) :
    decodeCodedNumber b = .ok i := by
  have h8 : ∀ {n}, b.has n = true → 8 ≤ n → ¬(!b.has 8) = true := fun hhas hn => by
    simp [BitSrc.has_mono hhas hn]
  unfold decodeCodedNumber
  match i, hk with
  | .codedNumberK000 x, rfl =>
    obtain ⟨hhas, hlead, rfl⟩ := (holds_pair_iff (by decide)).1 h
    obtain ⟨hlo, hhi⟩ := (b.field_prefix_iff (w := 8) 1 7 _ rfl).1 hlead
    rw [if_neg (h8 hhas (by decide))]
    exact if_pos hhi
  | .codedNumberK080 x, rfl =>
    obtain ⟨hhas, hlead, rfl⟩ := (holds_pair_iff (by decide)).1 h
    obtain ⟨hlo, hhi⟩ := (b.field_prefix_iff (w := 8) 2 6 _ rfl).1 hlead
    rw [if_neg (h8 hhas (by decide))]
    simp only
    rw [if_neg (by omega), if_pos (by omega)]
  | .codedNumberK1C0 x following, rfl =>
    obtain ⟨hhas, hlead, rfl, rfl⟩ := (holds_triple_iff (by decide)).1 h
    obtain ⟨hlo, hhi⟩ := (b.field_prefix_iff (w := 8) 3 5 _ rfl).1 hlead
    rw [if_neg (h8 hhas (by decide))]
    simp only
    rw [if_neg (by omega), if_neg (by omega), if_pos (by omega)]
    exact whole_eq_ok.2 ⟨hhas, rfl⟩
  | .codedNumberK2E0 x following, rfl =>
    obtain ⟨hhas, hlead, rfl, rfl⟩ := (holds_triple_iff (by decide)).1 h
    obtain ⟨hlo, hhi⟩ := (b.field_prefix_iff (w := 8) 4 4 _ rfl).1 hlead
    rw [if_neg (h8 hhas (by decide))]
    simp only
    rw [if_neg (by omega), if_neg (by omega), if_neg (by omega), if_pos (by omega)]
    exact whole_eq_ok.2 ⟨hhas, rfl⟩
  | .codedNumberK3F0 x following, rfl =>
    obtain ⟨hhas, hlead, rfl, rfl⟩ := (holds_triple_iff (by decide)).1 h
    obtain ⟨hlo, hhi⟩ := (b.field_prefix_iff (w := 8) 5 3 _ rfl).1 hlead
    rw [if_neg (h8 hhas (by decide))]
    simp only
    rw [if_neg (by omega), if_neg (by omega), if_neg (by omega), if_neg (by omega), if_pos (by omega)]
    exact whole_eq_ok.2 ⟨hhas, rfl⟩
  | .codedNumberK4F8 x following, rfl =>
    obtain ⟨hhas, hlead, rfl, rfl⟩ := (holds_triple_iff (by decide)).1 h
    obtain ⟨hlo, hhi⟩ := (b.field_prefix_iff (w := 8) 6 2 _ rfl).1 hlead
    rw [if_neg (h8 hhas (by decide))]
    simp only
    rw [if_neg (by omega), if_neg (by omega), if_neg (by omega), if_neg (by omega), if_neg (by omega), if_pos (by omega)]
    exact whole_eq_ok.2 ⟨hhas, rfl⟩
  | .codedNumberK5FC x following, rfl =>
    obtain ⟨hhas, hlead, rfl, rfl⟩ := (holds_triple_iff (by decide)).1 h
    obtain ⟨hlo, hhi⟩ := (b.field_prefix_iff (w := 8) 7 1 _ rfl).1 hlead
    rw [if_neg (h8 hhas (by decide))]
    simp only
    rw [if_neg (by omega), if_neg (by omega), if_neg (by omega), if_neg (by omega), if_neg (by omega), if_neg (by omega), if_pos (by omega)]
    exact whole_eq_ok.2 ⟨hhas, rfl⟩
  | .codedNumberK6FE following, rfl =>
    obtain ⟨hhas, hfirst, rfl⟩ := (holds_pair_iff (by decide)).1 h
    rw [if_neg (h8 hhas (by decide)), hfirst]
    exact whole_eq_ok.2 ⟨hhas, rfl⟩
  | .codedNumberK7FF following, rfl =>
    obtain ⟨hhas, hfirst, rfl⟩ := (holds_pair_iff (by decide)).1 h
    rw [if_neg (h8 hhas (by decide)), hfirst]
    exact whole_eq_ok.2 ⟨hhas, rfl⟩

end

/-! ## Every element -/

/-- The bits held at the start of an element well-formed and agreeing with its context are decoded to it. -/
theorem decodeElem_encode {c : ElemCtx} {k : Kind} {i : Instr} {b : BitSrc} (hw : i.WellFormed)
    (hk : i.kind? = some k) (ha : i.agrees c b.pos) (h : b.holds 0 (encode i)) : decodeElem c k b = .ok i := by
  match i, hk with
  | .marker, rfl => exact decode_marker h
  | .metaStreaminfo _ _, rfl => exact decode_metaHdr (by decide) h
  | .metaSkip0 last length, rfl => exact (metaRow_skip last length).1 ▸ decode_metaHdr (by decide) h
  | .metaSkip1 last low length, rfl =>
    obtain ⟨-, hrow, -⟩ := metaRow_skip last length
    exact hrow low ▸ decode_metaHdr (by omega) h
  | .metaSkip2 last low length, rfl =>
    obtain ⟨-, -, hrow, -⟩ := metaRow_skip last length
    exact hrow low ▸ decode_metaHdr (by omega) h
  | .metaSkip3 last low length, rfl =>
    obtain ⟨-, -, -, hrow, -⟩ := metaRow_skip last length
    exact hrow low ▸ decode_metaHdr (by omega) h
  | .metaSkip4 last low length, rfl =>
    obtain ⟨-, -, -, -, hrow, -⟩ := metaRow_skip last length
    exact hrow low ▸ decode_metaHdr (by omega) h
  | .metaSkip5 last low length, rfl =>
    obtain ⟨-, -, -, -, -, hrow, -⟩ := metaRow_skip last length
    exact hrow low ▸ decode_metaHdr (by omega) h
  | .metaSkip6 last low length, rfl =>
    obtain ⟨-, -, -, -, -, -, hrow⟩ := metaRow_skip last length
    exact hrow low ▸ decode_metaHdr (by omega) h
  | .streaminfoBody _ _ _ _ _ _ _ _ _, rfl => exact decode_streaminfo h
  | .skippedBody length, rfl =>
    have hhas := BitSrc.has_of_holds h
    rw [encode, List.length_replicate, Nat.zero_add] at hhas
    subst ha
    exact whole_eq_ok.2 ⟨hhas, rfl⟩
  | .framePreamble _ _ _ _ _, rfl => exact decode_preamble h
  | .bsCode0, rfl | .bsCode1, rfl | .bsCode2, rfl | .bsCode3, rfl | .bsCode4, rfl | .bsCode5, rfl
  | .bsCode6, rfl | .bsCode7, rfl | .bsCode8, rfl | .bsCode9, rfl | .bsCode10, rfl | .bsCode11, rfl
  | .bsCode12, rfl | .bsCode13, rfl | .bsCode14, rfl | .bsCode15, rfl =>
    exact decode_row bsCodeRow (by decide) h
  | .srCode0, rfl | .srCode1, rfl | .srCode2, rfl | .srCode3, rfl | .srCode4, rfl | .srCode5, rfl
  | .srCode6, rfl | .srCode7, rfl | .srCode8, rfl | .srCode9, rfl | .srCode10, rfl | .srCode11, rfl
  | .srCode12, rfl | .srCode13, rfl | .srCode14, rfl | .srCode15, rfl =>
    exact decode_row srCodeRow (by decide) h
  | .caCode0, rfl | .caCode1, rfl | .caCode2, rfl | .caCode3, rfl | .caCode4, rfl | .caCode5, rfl
  | .caCode6, rfl | .caCode7, rfl | .caCode8, rfl | .caCode9, rfl | .caCode10, rfl | .caCode11, rfl
  | .caCode12, rfl | .caCode13, rfl | .caCode14, rfl | .caCode15, rfl =>
    exact decode_row caCodeRow (by decide) h
  | .ssCode0, rfl | .ssCode1, rfl | .ssCode2, rfl | .ssCode3, rfl | .ssCode4, rfl | .ssCode5, rfl
  | .ssCode6, rfl | .ssCode7, rfl =>
    exact decode_row ssCodeRow (by decide) h
  | .codedNumberK000 _, rfl | .codedNumberK080 _, rfl | .codedNumberK1C0 _ _, rfl | .codedNumberK2E0 _ _, rfl
  | .codedNumberK3F0 _ _, rfl | .codedNumberK4F8 _ _, rfl | .codedNumberK5FC _ _, rfl | .codedNumberK6FE _, rfl
  | .codedNumberK7FF _, rfl => exact decode_codedNumber rfl h
  | .blocksizeExt8 _, rfl => exact decode_bits .blocksizeExt8 h
  | .blocksizeExt16 _, rfl => exact decode_bits .blocksizeExt16 h
  | .rateExt8Khz _, rfl => exact decode_bits .rateExt8Khz h
  | .rateExt16Hz _, rfl => exact decode_bits .rateExt16Hz h
  | .rateExt16Dhz _, rfl => exact decode_bits .rateExt16Dhz h
  | .crc8 _, rfl => exact decode_bits .crc8 h
  | .subframeConstant _ _, rfl | .subframeVerbatim _ _, rfl | .subframeFixed0 _ _, rfl | .subframeFixed1 _ _, rfl
  | .subframeFixed2 _ _, rfl | .subframeFixed3 _ _, rfl | .subframeFixed4 _ _, rfl =>
    exact decode_subframeHdr (by decide) rfl h
  | .subframeReserved2To3 zero x, rfl =>
    obtain ⟨hrow, -⟩ := subframeReservedRow_rows zero
    exact hrow x ▸ decode_subframeReserved (by omega) (by simp [subframeReserved]; omega) h
  | .subframeReserved4To7 zero x, rfl =>
    obtain ⟨-, hrow, -⟩ := subframeReservedRow_rows zero
    exact hrow x ▸ decode_subframeReserved (by omega) (by simp [subframeReserved]; omega) h
  | .subframeReserved13 _, rfl => exact decode_subframeReserved (by decide) rfl h
  | .subframeReserved14To15 zero x, rfl =>
    obtain ⟨-, -, -, hrow, -⟩ := subframeReservedRow_rows zero
    exact hrow x ▸ decode_subframeReserved (by omega) (by simp [subframeReserved]; omega) h
  | .subframeReserved16To31 zero x, rfl =>
    obtain ⟨-, -, -, -, hrow⟩ := subframeReservedRow_rows zero
    exact hrow x ▸ decode_subframeReserved (by omega) (by simp [subframeReserved]; omega) h
  | .subframeLpc zero orderMinus1 wasted, rfl =>
    exact subframeRow_lpc zero wasted orderMinus1 ▸
      decode_subframeHdr (by omega) (by simp [subframeReserved]; omega) h
  | .wastedUnary _, rfl => exact decode_wastedUnary h
  | .constantBody width v, rfl =>
    obtain rfl := ha
    simp only [Instr.WellFormed, Instr.wellFormed, Bool.and_eq_true] at hw
    exact decode_signed (.constantBody c.bpsEff) hw.2 h
  | .verbatimBody, rfl => rfl
  | .fixedBody _, rfl | .lpcBody _, rfl =>
    obtain rfl := ha
    rfl
  | .residualMethod0 _, rfl | .residualMethod1 _, rfl => exact decode_residualMethod (by decide) h
  | .residualMethod2, rfl | .residualMethod3, rfl => exact decode_residualReserved (by decide) (by decide) h
  | .param4RiceK0, rfl | .param4RiceK1, rfl | .param4RiceK2, rfl | .param4RiceK3, rfl | .param4RiceK4, rfl
  | .param4RiceK5, rfl | .param4RiceK6, rfl | .param4RiceK7, rfl | .param4RiceK8, rfl | .param4RiceK9, rfl
  | .param4RiceK10, rfl | .param4RiceK11, rfl | .param4RiceK12, rfl | .param4RiceK13, rfl | .param4RiceK14, rfl
  | .param4Escape, rfl =>
    exact decode_row param4Row (by decide) h
  | .param5RiceK0, rfl | .param5RiceK1, rfl | .param5RiceK2, rfl | .param5RiceK3, rfl | .param5RiceK4, rfl
  | .param5RiceK5, rfl | .param5RiceK6, rfl | .param5RiceK7, rfl | .param5RiceK8, rfl | .param5RiceK9, rfl
  | .param5RiceK10, rfl | .param5RiceK11, rfl | .param5RiceK12, rfl | .param5RiceK13, rfl | .param5RiceK14, rfl
  | .param5RiceK15, rfl | .param5RiceK16, rfl | .param5RiceK17, rfl | .param5RiceK18, rfl | .param5RiceK19, rfl
  | .param5RiceK20, rfl | .param5RiceK21, rfl | .param5RiceK22, rfl | .param5RiceK23, rfl | .param5RiceK24, rfl
  | .param5RiceK25, rfl | .param5RiceK26, rfl | .param5RiceK27, rfl | .param5RiceK28, rfl | .param5RiceK29, rfl
  | .param5RiceK30, rfl | .param5Escape, rfl =>
    exact decode_row param5Row (by decide) h
  | .escapeWidth _, rfl => exact decode_bits .escapeWidth h
  | .rawResidual width v, rfl =>
    obtain rfl := ha
    simp only [Instr.WellFormed, Instr.wellFormed, Bool.and_eq_true] at hw
    exact decode_signed (.rawResidual c.bitCount) hw.2 h
  | .riceWord k q r, rfl =>
    obtain rfl := ha
    simp only [Instr.WellFormed, Instr.wellFormed, Bool.and_eq_true, decide_eq_true_eq] at hw
    exact decode_riceWord hw.2 h
  | .padding width v, rfl =>
    obtain rfl := ha
    simp only [Instr.WellFormed, Instr.wellFormed, Bool.and_eq_true, decide_eq_true_eq] at hw
    exact decode_row (.padding (padWidth b.pos)) hw.2 h
  | .crc16 _, rfl => exact decode_bits .crc16 h

/-- Settles O7: element by element, the fields read are the operands written. -/
theorem decodeOfEncode : Obligations.DecodeOfEncode :=
  fun _ _ _ _ _ hw hk ha h => decodeElem_encode hw hk ha h

end Sys2Proof
end

section
/-! What the decoder accepts is what the encoder writes: O8. -/

namespace Sys2Proof

section
variable {b : BitSrc} {c : ElemCtx} {i : Instr}

/-! ## The elements with a decoder of their own -/

theorem holds_decoded_marker (h : decodeMarkerElem b = .ok i) : b.holds 0 (encode i) := by
  unfold decodeMarkerElem at h
  split_ifs at h with hhas hfield
  cases h
  exact (BitSrc.holds_bitsOf (by decide)).2 ⟨by simpa using hhas, hfield⟩

theorem holds_decoded_metaHdr (h : decodeElem c .metaHdr b = .ok i) : b.holds 0 (encode i) := by
  obtain ⟨hhas, rfl⟩ := whole_eq_ok.1 h
  rw [encode_metaRow BitSrc.field_lt]
  exact (holds_metaHdr_iff BitSrc.field_lt).2 ⟨hhas, rfl, rfl, rfl⟩

theorem holds_decoded_streaminfo {n : Nat} (h : decodeStreaminfo n b = .ok i) : b.holds 0 (encode i) := by
  unfold decodeStreaminfo at h
  split_ifs at h with hhas
  cases h
  exact holds_streaminfo_iff.2 ⟨hhas, rfl, rfl, rfl, rfl, rfl, rfl, rfl, rfl, rfl⟩

theorem holds_decoded_preamble (h : decodePreamble b = .ok i) : b.holds 0 (encode i) := by
  unfold decodePreamble at h
  split_ifs at h with hfixed
  cases h
  simp only [Bool.and_eq_true, decide_eq_true_eq, Bool.not_eq_true'] at hfixed
  obtain ⟨⟨⟨hhas, hsync⟩, hres₁⟩, hres₂⟩ := hfixed
  exact holds_preamble_iff.2 ⟨hhas, hsync, hres₁, rfl, rfl, rfl, rfl, rfl, hres₂⟩

theorem holds_decoded_subframeHdr (h : decodeSubframeHdr b = .ok i) : b.holds 0 (encode i) := by
  unfold decodeSubframeHdr at h
  split_ifs at h with hhas hr
  · cases h
    rw [encode_subframeReservedRow hr]
    exact (holds_flagged_iff BitSrc.field_lt).2 ⟨by simpa using hhas, rfl, rfl⟩
  · obtain ⟨hhas, rfl⟩ := whole_eq_ok.1 h
    rw [encode_subframeRow BitSrc.field_lt (by simpa using hr)]
    exact (holds_subframeHdr_iff BitSrc.field_lt).2 ⟨hhas, rfl, rfl, rfl⟩

theorem holds_decoded_residualHdr (h : decodeResidualHdr b = .ok i) : b.holds 0 (encode i) := by
  unfold decodeResidualHdr at h
  have hlt : b.field 0 2 < 2 ^ 2 := BitSrc.field_lt
  split_ifs at h with hhas h2 h3 h0
  · cases h
    exact (BitSrc.holds_bitsOf (by decide)).2 ⟨by simpa using hhas, h2⟩
  · cases h
    exact (BitSrc.holds_bitsOf (by decide)).2 ⟨by simpa using hhas, h3⟩
  · obtain ⟨hhas, rfl⟩ := whole_eq_ok.1 h
    exact (holds_pair_iff (by decide)).2 ⟨hhas, h0, rfl⟩
  · obtain ⟨hhas, rfl⟩ := whole_eq_ok.1 h
    exact (holds_pair_iff (by decide)).2 ⟨hhas, by omega, rfl⟩

theorem holds_decoded_wastedUnary (h : decodeWastedUnary b = .ok i) : b.holds 0 (encode i) := by
  unfold decodeWastedUnary at h
  split at h
  · cases h
  · next w hw =>
    cases h
    exact BitSrc.unary_eq_some_iff.1 hw

theorem holds_decoded_riceWord {k : Nat} (h : decodeRiceWord k b = .ok i) : b.holds 0 (encode i) := by
  unfold decodeRiceWord at h
  split at h
  · cases h
  · next q hq =>
    obtain ⟨hhas, rfl⟩ := whole_eq_ok.1 h
    exact (holds_riceWord_iff BitSrc.field_lt).2 ⟨hhas, hq, rfl⟩

theorem holds_decoded_codedNumber (h : decodeCodedNumber b = .ok i) : b.holds 0 (encode i) := by
  have hlt : b.field 0 8 < 2 ^ 8 := BitSrc.field_lt
  unfold decodeCodedNumber at h
  simp only at h
  split_ifs at h with h8 h0 h1 h2 h3 h4 h5 h6 h7
  · cases h
    exact (holds_pair_iff (m := 1) (n := 7) (by decide)).2
      ⟨by simpa using h8, (b.field_prefix_iff (w := 8) 1 7 _ rfl).2 (by omega), rfl⟩
  · cases h
    exact (holds_pair_iff (m := 2) (n := 6) (by decide)).2
      ⟨by simpa using h8, (b.field_prefix_iff (w := 8) 2 6 _ rfl).2 (by omega), rfl⟩
  · obtain ⟨hhas, rfl⟩ := whole_eq_ok.1 h
    exact (holds_triple_iff (m := 3) (n := 5) (by decide)).2
      ⟨hhas, (b.field_prefix_iff (w := 8) 3 5 _ rfl).2 (by omega), rfl, rfl⟩
  · obtain ⟨hhas, rfl⟩ := whole_eq_ok.1 h
    exact (holds_triple_iff (m := 4) (n := 4) (by decide)).2
      ⟨hhas, (b.field_prefix_iff (w := 8) 4 4 _ rfl).2 (by omega), rfl, rfl⟩
  · obtain ⟨hhas, rfl⟩ := whole_eq_ok.1 h
    exact (holds_triple_iff (m := 5) (n := 3) (by decide)).2
      ⟨hhas, (b.field_prefix_iff (w := 8) 5 3 _ rfl).2 (by omega), rfl, rfl⟩
  · obtain ⟨hhas, rfl⟩ := whole_eq_ok.1 h
    exact (holds_triple_iff (m := 6) (n := 2) (by decide)).2
      ⟨hhas, (b.field_prefix_iff (w := 8) 6 2 _ rfl).2 (by omega), rfl, rfl⟩
  · obtain ⟨hhas, rfl⟩ := whole_eq_ok.1 h
    exact (holds_triple_iff (m := 7) (n := 1) (by decide)).2
      ⟨hhas, (b.field_prefix_iff (w := 8) 7 1 _ rfl).2 (by omega), rfl, rfl⟩
  · obtain ⟨hhas, rfl⟩ := whole_eq_ok.1 h
    exact (holds_pair_iff (m := 8) (by decide)).2 ⟨hhas, by omega, rfl⟩
  · obtain ⟨hhas, rfl⟩ := whole_eq_ok.1 h
    exact (holds_pair_iff (m := 8) (by decide)).2 ⟨hhas, by omega, rfl⟩

/-! ## Every element -/

/-- The bits of an element that was decoded are held; a skipped body keeps only its length (R94). -/
theorem holds_decoded {k : Kind} (hk : k ≠ .skippedBody) (hpos : b.pos ≤ 8 * b.bytes.length)
    (h : decodeElem c k b = .ok i) : b.holds 0 (encode i) := by
  cases k with
  | marker => exact holds_decoded_marker h
  | metaHdr => exact holds_decoded_metaHdr h
  | streaminfoBody => exact holds_decoded_streaminfo h
  | skippedBody => exact absurd rfl hk
  | framePreamble => exact holds_decoded_preamble h
  | bsCode => exact holds_decoded_row encodesRows_bsCode h
  | srCode => exact holds_decoded_row encodesRows_srCode h
  | caCode => exact holds_decoded_row encodesRows_caCode h
  | ssCode => exact holds_decoded_row encodesRows_ssCode h
  | codedNumber => exact holds_decoded_codedNumber h
  | blocksizeExt8 => exact holds_decoded_bits .blocksizeExt8 (fun _ => rfl) h
  | blocksizeExt16 => exact holds_decoded_bits .blocksizeExt16 (fun _ => rfl) h
  | rateExt8Khz => exact holds_decoded_bits .rateExt8Khz (fun _ => rfl) h
  | rateExt16Hz => exact holds_decoded_bits .rateExt16Hz (fun _ => rfl) h
  | rateExt16Dhz => exact holds_decoded_bits .rateExt16Dhz (fun _ => rfl) h
  | crc8 => exact holds_decoded_bits .crc8 (fun _ => rfl) h
  | subframeHdr => exact holds_decoded_subframeHdr h
  | wastedUnary => exact holds_decoded_wastedUnary h
  | constantBody => exact holds_decoded_signed (.constantBody c.bpsEff) (fun _ => rfl) h
  | verbatimBody | fixedBody | lpcBody =>
    cases h
    exact carries_nil hpos
  | residualHdr => exact holds_decoded_residualHdr h
  | param4 => exact holds_decoded_row encodesRows_param4 h
  | param5 => exact holds_decoded_row encodesRows_param5 h
  | escapeWidth => exact holds_decoded_bits .escapeWidth (fun _ => rfl) h
  | rawResidual => exact holds_decoded_signed (.rawResidual c.bitCount) (fun _ => rfl) h
  | riceWord => exact holds_decoded_riceWord h
  | padding => exact holds_decoded_row (row := .padding (padWidth b.pos)) (fun _ _ => rfl) h
  | crc16 => exact holds_decoded_bits .crc16 (fun _ => rfl) h

/-- What was decoded is well-formed and agrees with its context, where the context is in the ranges of R214, R256 and
R254. -/
theorem decoded_wellFormed {k : Kind} (hb : 1 ≤ c.bpsEff) (hb' : c.bpsEff ≤ 64) (hw : c.bitCount ≤ 31)
    (hr : c.riceParam ≤ 30) (h : decodeElem c k b = .ok i) : i.WellFormed ∧ i.agrees c b.pos := by
  have hkind := yields_decodeElem c k b i h
  cases i <;> cases hkind
  case skippedBody length =>
    obtain ⟨-, hi⟩ := whole_eq_ok.1 h
    cases hi
    exact ⟨rfl, rfl⟩
  case constantBody width v =>
    obtain ⟨-, hi⟩ := whole_eq_ok.1 h
    cases hi
    exact ⟨by simp [Instr.WellFormed, Instr.wellFormed, Config.maxField, hb, hb', fitsSigned_sext BitSrc.field_lt], rfl⟩
  case fixedBody | lpcBody =>
    cases h
    exact ⟨rfl, rfl⟩
  case rawResidual width v =>
    obtain ⟨-, hi⟩ := whole_eq_ok.1 h
    cases hi
    exact ⟨by simp [Instr.WellFormed, Instr.wellFormed, hw, fitsSigned_sext BitSrc.field_lt], rfl⟩
  case riceWord k q r =>
    simp only [decodeElem, decodeRiceWord] at h
    split at h
    · cases h
    · obtain ⟨-, hi⟩ := whole_eq_ok.1 h
      cases hi
      exact ⟨by simp [Instr.WellFormed, Instr.wellFormed, hr, BitSrc.field_lt], rfl⟩
  case padding width v =>
    obtain ⟨-, hi⟩ := whole_eq_ok.1 h
    cases hi
    have hpad : padWidth b.pos ≤ 7 := by unfold padWidth; omega
    exact ⟨by simp [Instr.WellFormed, Instr.wellFormed, hpad, BitSrc.field_lt], rfl⟩
  all_goals exact ⟨rfl, trivial⟩

end

/-- Settles O8: the fields read are the operands, so writing the operands gives the fields back; of a skipped body the
length is what was checked. -/
theorem encodeOfDecode : Obligations.EncodeOfDecode := by
  intro c k i bytes pos hb hb' hw hr hpos h
  obtain ⟨hwf, hagrees⟩ := decoded_wellFormed hb hb' hw hr h
  have hbits : k ≠ .skippedBody → carries bytes pos (encode i) := fun hk => holds_decoded hk hpos h
  refine ⟨hwf, yields_decodeElem _ _ _ _ h, hagrees, ?_, hbits⟩
  by_cases hk : k = .skippedBody
  · subst hk
    obtain ⟨hhas, rfl⟩ := whole_eq_ok.1 h
    rw [encode, List.length_replicate]
    exact BitSrc.has_iff.1 hhas
  · exact (hbits hk).bound

end Sys2Proof
end

section
/-! The elements that only read fields: what each row consumes and leaves, and the fault of each reserved code. -/

namespace Sys2Proof.Machine

/-! ## An element that is not cut short -/

section
variable {s : State} {n : Nat} {f : State → Out}

/-- An element that is cut short is P11 (R77). -/
theorem element_faults_short (f : State → Out) (hf : s.fault = false) (hb : s.bitLength < s.bitpos + n) :
    FaultsWith (element n s f) s .endOfStream := by
  rw [element_short f hf hb]
  exact faultsWith_raise rfl rfl rfl rfl rfl

/-- An element whose effect is a fault. -/
theorem element_faults {r : Raise} (hf : s.fault = false) (hb : s.bitpos + n ≤ s.bitLength)
    (hr : f (s.setBitpos (s.bitpos + n)) = raise r (s.setBitpos (s.bitpos + n))) : FaultsWith (element n s f) s r := by
  rw [element_ok f hf hb, hr]
  exact faultsWith_raise rfl rfl rfl rfl rfl

/-- An element whose effect goes on. -/
theorem element_next {t : State} (hf : s.fault = false) (hb : s.bitpos + n ≤ s.bitLength)
    (ht : f (s.setBitpos (s.bitpos + n)) = .next t) : element n s f = .next t := (element_ok f hf hb).trans ht

end

/-- Settles O36: each row is one element of 32 bits; a skipped body is `8 * length` bits. -/
theorem metadataElements : Obligations.MetadataElements := by
  intro s last length hf
  refine ⟨fun hb => ?_, fun hb => ?_, fun hb => ?_⟩
  · exact ⟨element_ok _ hf hb, element_ok _ hf hb, element_ok _ hf hb, fun _ => element_ok _ hf hb,
      fun _ => element_ok _ hf hb, fun _ => element_ok _ hf hb, fun _ => element_ok _ hf hb,
      fun _ => element_ok _ hf hb, fun _ => element_ok _ hf hb⟩
  · exact element_next hf hb rfl
  · exact element_faults_short _ hf hb

/-- Settles O37: the two checks of R155 in their order, then the write. -/
theorem streaminfoBodyElement : Obligations.StreaminfoBodyElement := by
  intro s minBlock maxBlock minFrame maxFrame rate channels bps total md5 hf hb
  have hblock : maxBlock.toNat ≤ s.capacity → maxBlockFault s.capacity maxBlock.toNat = none :=
    fun h => if_neg (by omega)
  refine ⟨fun hcap => element_faults hf hb ?_, fun hcap hch => element_faults hf hb ?_, fun hcap hch =>
    element_next hf hb ?_⟩
  · have hfault : maxBlockFault s.capacity maxBlock.toNat = some _ := if_pos hcap
    simp only [State.setBitpos_capacity, hfault]
    rfl
  · have hfault : channelCountFault (channels.toNat + 1) = some _ := if_pos (by omega)
    simp only [State.setBitpos_capacity, hblock hcap, hfault]
    rfl
  · have hcount : channelCountFault (channels.toNat + 1) = none := if_neg (by omega)
    simp only [State.setBitpos_capacity, hblock hcap, hcount]
    rfl

/-- Settles O44: the CRCs are elements without an effect; the padding ends at the next byte boundary. -/
theorem discardedFields : Obligations.DiscardedFields := by
  intro s hf
  refine ⟨fun _ hb => element_ok _ hf hb, fun _ hb => element_faults_short _ hf hb, fun _ hb => element_ok _ hf hb,
    fun _ hb => element_faults_short _ hf hb, ?_⟩
  rintro width v - rfl
  refine ⟨live_ok (fun s => .next s.align) hf, ?_⟩
  unfold padWidth
  omega

/-- Settles O45: a header of a legal type is one element of 8 bits, a reserved type faults behind its 7 bits. -/
theorem subframeHeaderRows : Obligations.SubframeHeaderRows := by
  intro s zero wasted hf
  have hlpc : ∀ m : BitVec 5, predictorOrder (32 + m.toNat) = m.toNat + 1 := fun m => by
    rw [predictorOrder, if_neg (by simp; omega), if_pos (by omega)]
    omega
  refine ⟨fun hb => ⟨element_ok _ hf hb, element_ok _ hf hb, element_ok _ hf hb, element_ok _ hf hb,
    element_ok _ hf hb, element_ok _ hf hb, element_ok _ hf hb, fun m => ?_⟩, fun hb =>
    ⟨fun _ => element_faults hf hb rfl, fun _ => element_faults hf hb rfl, element_faults hf hb rfl,
      fun _ => element_faults hf hb rfl, fun _ => element_faults hf hb rfl⟩⟩
  rw [← hlpc m]
  exact element_ok _ hf hb

/-- Settles O54: every row is one element of its method's width. -/
theorem partitionParameters : Obligations.PartitionParameters := by
  intro s hf
  refine ⟨fun hb e he => ?_, fun hb e he => ?_⟩
  · fin_cases he <;> exact element_ok _ hf hb
  · fin_cases he <;> exact element_ok _ hf hb

end Sys2Proof.Machine
end

section
/-! The four codes of the frame header, each with what its legal codes leave and how its illegal codes fault; the preamble
runs them in their order. -/

namespace Sys2Proof.Machine

/-! ## The blocksize code -/

section
variable {c n : Nat} (s : State)

theorem blocksizeCode_samples (hc : c ≠ 0) (h : blocksizeOf c = .samples n) :
    blocksizeCode c s = .next (s.setWork { s.work with bsCode := BitVec.ofNat 4 c, blocksize := n }) := by
  simp only [blocksizeCode, bsCodeFault, if_neg hc, h]

theorem blocksizeCode_extension (hc : c ≠ 0) (h : blocksizeOf c = .extension n) :
    blocksizeCode c s = .next (s.setWork { s.work with bsCode := BitVec.ofNat 4 c }) := by
  simp only [blocksizeCode, bsCodeFault, if_neg hc, h]

/-- What a legal blocksize code leaves (R112). -/
theorem blocksizeCode_legal {bs : BitVec 4} (h0 : bs ≠ 0) :
    blocksizeCode bs.toNat s = .next (s.setWork { s.work with
      bsCode := bs
      blocksize := if bs = 6 ∨ bs = 7 then s.work.blocksize else tableBlocksize bs.toNat 0 }) := by
  by_cases hext : bs = 6 ∨ bs = 7
  · rcases hext with rfl | rfl <;> rfl
  · have htable : ∀ bs : BitVec 4, bs ≠ 0 → ¬(bs = 6 ∨ bs = 7) →
        bs.toNat ≠ 0 ∧ blocksizeOf bs.toNat = .samples (tableBlocksize bs.toNat 0) := by decide
    obtain ⟨hc, hrow⟩ := htable bs h0 hext
    rw [blocksizeCode_samples s hc hrow, if_neg hext, BitVec.ofNat_toNat, BitVec.setWidth_eq]

/-! ## `SI_*` as the frame header reads it (R27) -/

/-- The group read: `SI_*`, or a draw while `SI_VALID = 0`. -/
def State.siRead : StreamInfo := if s.siValid then s.si else Config.freeStreamInfo s.draw

/-- The model's draw counter behind such a read. -/
def State.drawAfterSi : Nat := if s.siValid then s.draw else s.draw + 1

theorem State.siRead_valid (h : s.siValid = true) : s.siRead = s.si := if_pos h

theorem State.drawAfterSi_valid (h : s.siValid = true) : s.drawAfterSi = s.draw := if_pos h

theorem withSiRate_eq (f : BitVec 20 → State → Out) :
    withSiRate s f = f s.siRead.rate { s with draw := s.drawAfterSi } := by
  unfold withSiRate State.siRead State.drawAfterSi
  split <;> rfl

theorem withSiBps_eq (f : BitVec 6 → State → Out) :
    withSiBps s f = f s.siRead.bps { s with draw := s.drawAfterSi } := by
  unfold withSiBps State.siRead State.drawAfterSi
  split <;> rfl

/-! ## The sample-rate code -/

theorem rateCode_hertz (h : rateOf c = .hertz n) (hc : c ≠ 15) :
    rateCode c s = .next (s.setWork { s.work with srCode := BitVec.ofNat 4 c, rate := n }) := by
  simp only [rateCode, srCodeFault, if_neg hc, h]

theorem rateCode_extension {scale : Nat} (h : rateOf c = .extension n scale) (hc : c ≠ 15) :
    rateCode c s = .next (s.setWork { s.work with srCode := BitVec.ofNat 4 c }) := by
  simp only [rateCode, srCodeFault, if_neg hc, h]

theorem rateCode_streaminfo :
    rateCode 0 s = .next { s with
      draw := s.drawAfterSi, work := { s.work with srCode := 0, rate := s.siRead.rate.toNat } } :=
  withSiRate_eq s fun v s => .next (s.setWork { s.work with srCode := 0, rate := v.toNat })

/-- Only code 0 takes its rate from STREAMINFO. -/
theorem tableRate_of_ne_zero (h : c ≠ 0) (siRate ext : Nat) : tableRate c siRate ext = tableRate c 0 ext := by
  obtain ⟨c, rfl⟩ := Nat.exists_eq_succ_of_ne_zero h
  rfl

/-- What a legal sample-rate code leaves (R113). -/
theorem rateCode_legal {sr : BitVec 4} (h15 : sr ≠ 15) :
    rateCode sr.toNat s = .next { s with
      draw := if sr = 0 then s.drawAfterSi else s.draw
      work := { s.work with
        srCode := sr
        rate := if sr.toNat ∈ [12, 13, 14] then s.work.rate else tableRate sr.toNat s.siRead.rate.toNat 0 } } := by
  by_cases h0 : sr = 0
  · subst h0
    exact rateCode_streaminfo s
  rw [if_neg h0]
  by_cases hext : sr.toNat ∈ [12, 13, 14]
  · have htable : ∀ sr : BitVec 4, sr.toNat ∈ [12, 13, 14] → sr = 12 ∨ sr = 13 ∨ sr = 14 := by decide
    rcases htable sr hext with rfl | rfl | rfl <;> rfl
  · have htable : ∀ sr : BitVec 4, sr ≠ 0 → sr ≠ 15 → sr.toNat ∉ [12, 13, 14] →
        sr.toNat ≠ 0 ∧ sr.toNat ≠ 15 ∧ rateOf sr.toNat = .hertz (tableRate sr.toNat 0 0) := by decide
    obtain ⟨hc0, hc15, hrow⟩ := htable sr h0 h15 hext
    rw [rateCode_hertz s hrow hc15, if_neg hext, tableRate_of_ne_zero hc0 s.siRead.rate.toNat, BitVec.ofNat_toNat, BitVec.setWidth_eq]
    rfl

/-! ## The channel-assignment code -/

theorem channelCode_accepted (h : caCodeFault c = none) :
    channelCode c s = .next (s.setWork { s.work with caCode := BitVec.ofNat 4 c, nch := channelsOf c }) := by
  simp only [channelCode, h]

theorem channelCode_fault {r : Raise} (h : caCodeFault c = some r) : channelCode c s = raise r s := by
  simp only [channelCode, h]

/-- What a legal channel assignment leaves (R115). -/
theorem channelCode_legal {ca : BitVec 4} (h : ca.toNat ∈ [0, 1, 8, 9, 10]) :
    channelCode ca.toNat s = .next (s.setWork { s.work with caCode := ca, nch := if ca = 0 then 1 else 2 }) := by
  have htable : ∀ ca : BitVec 4, ca.toNat ∈ [0, 1, 8, 9, 10] →
      caCodeFault ca.toNat = none ∧ channelsOf ca.toNat = if ca = 0 then 1 else 2 := by decide
  obtain ⟨hrow, hnch⟩ := htable ca h
  rw [channelCode_accepted s hrow, hnch, BitVec.ofNat_toNat, BitVec.setWidth_eq]

theorem caCodeFault_reserved (h : 11 ≤ c) : caCodeFault c = some ⟨.a03, ⟨some (.num c), none⟩⟩ := if_pos h

theorem caCodeFault_channels (h2 : 2 ≤ c) (h7 : c ≤ 7) :
    caCodeFault c = some ⟨.a04, ⟨some (.num (c + 1)), some (.num 2)⟩⟩ := by
  rw [caCodeFault, if_neg (by omega), if_pos (by simp [h2, h7])]
  rfl

/-! ## The sample-size code -/

theorem sampleSizeCode_bits (h : sampleSizeOf c = some n) (h3 : c ≠ 3) :
    sampleSizeCode c s = .next (s.setWork { s.work with ssCode := BitVec.ofNat 3 c, bps := n }) := by
  simp only [sampleSizeCode, ssCodeFault, if_neg h3, h]

theorem sampleSizeCode_streaminfo :
    sampleSizeCode 0 s = .next { s with
      draw := s.drawAfterSi, work := { s.work with ssCode := 0, bps := s.siRead.bps.toNat } } :=
  withSiBps_eq s fun v s => .next (s.setWork { s.work with ssCode := 0, bps := v.toNat })

/-- Only code 0 takes its sample size from STREAMINFO. -/
theorem tableBps_of_ne_zero (h : c ≠ 0) (siBps : Nat) : tableBps c siBps = tableBps c 0 := by
  obtain ⟨c, rfl⟩ := Nat.exists_eq_succ_of_ne_zero h
  rfl

/-- What a legal sample-size code leaves (R114). -/
theorem sampleSizeCode_legal {ss : BitVec 3} (h3 : ss ≠ 3) :
    sampleSizeCode ss.toNat s = .next { s with
      draw := if ss = 0 then s.drawAfterSi else s.draw
      work := { s.work with ssCode := ss, bps := tableBps ss.toNat s.siRead.bps.toNat } } := by
  by_cases h0 : ss = 0
  · subst h0
    exact sampleSizeCode_streaminfo s
  · have htable : ∀ ss : BitVec 3, ss ≠ 0 → ss ≠ 3 →
        ss.toNat ≠ 0 ∧ ss.toNat ≠ 3 ∧ sampleSizeOf ss.toNat = some (tableBps ss.toNat 0) := by decide
    obtain ⟨hc0, hc3, hrow⟩ := htable ss h0 h3
    rw [if_neg h0, sampleSizeCode_bits s hrow hc3, tableBps_of_ne_zero hc0 s.siRead.bps.toNat, BitVec.ofNat_toNat, BitVec.setWidth_eq]
    rfl

end

/-! ## Each code as an element of its own -/

/-- Settles O38: `blocksizeCode_samples` and `blocksizeCode_extension` row by row, P05 for code 0. -/
theorem blocksizeCodes : Obligations.BlocksizeCodes := by
  intro s hf
  refine ⟨fun hb => ?_, fun v hb => element_ok _ hf hb, fun v hb => element_ok _ hf hb⟩
  have hrow : ∀ c n, c ≠ 0 → blocksizeOf c = .samples n → bsCode c s = .next { s with
      bitpos := s.bitpos + 4, work := { s.work with bsCode := BitVec.ofNat 4 c, blocksize := n } } :=
    fun c n hc h => element_next hf hb (blocksizeCode_samples _ hc h)
  have hext : ∀ c n, c ≠ 0 → blocksizeOf c = .extension n → bsCode c s = .next { s with
      bitpos := s.bitpos + 4, work := { s.work with bsCode := BitVec.ofNat 4 c } } :=
    fun c n hc h => element_next hf hb (blocksizeCode_extension _ hc h)
  exact ⟨element_faults hf hb rfl, hrow 1 192 (by decide) rfl, hrow 2 576 (by decide) rfl,
    hrow 3 1152 (by decide) rfl, hrow 4 2304 (by decide) rfl, hrow 5 4608 (by decide) rfl,
    hext 6 8 (by decide) rfl, hext 7 16 (by decide) rfl, hrow 8 256 (by decide) rfl, hrow 9 512 (by decide) rfl,
    hrow 10 1024 (by decide) rfl, hrow 11 2048 (by decide) rfl, hrow 12 4096 (by decide) rfl,
    hrow 13 8192 (by decide) rfl, hrow 14 16384 (by decide) rfl, hrow 15 32768 (by decide) rfl⟩

/-- Settles O39: `rateCode_hertz`, `rateCode_extension` and `rateCode_streaminfo` row by row, P06 for code 15. -/
theorem sampleRateCodes : Obligations.SampleRateCodes := by
  intro s hf
  refine ⟨fun hb => ?_, fun v hb => element_ok _ hf hb, fun v hb => ⟨?_, element_ok _ hf hb⟩⟩
  · have hrow : ∀ c n, c ≠ 15 → rateOf c = .hertz n → srCode c s = .next { s with
        bitpos := s.bitpos + 4, work := { s.work with srCode := BitVec.ofNat 4 c, rate := n } } :=
      fun c n hc h => element_next hf hb (rateCode_hertz _ h hc)
    have hext : ∀ c n scale, c ≠ 15 → rateOf c = .extension n scale → srCode c s = .next { s with
        bitpos := s.bitpos + 4, work := { s.work with srCode := BitVec.ofNat 4 c } } :=
      fun c n scale hc h => element_next hf hb (rateCode_extension _ h hc)
    have hzero : srCode 0 s = .next { s with
        bitpos := s.bitpos + 4, draw := s.drawAfterSi
        work := { s.work with srCode := 0, rate := s.siRead.rate.toNat } } :=
      element_next hf hb (rateCode_streaminfo _)
    refine ⟨fun hs => ?_, fun _ => ⟨_, _, hzero⟩, hrow 1 88200 (by decide) rfl,
      hrow 2 176400 (by decide) rfl, hrow 3 192000 (by decide) rfl, hrow 4 8000 (by decide) rfl,
      hrow 5 16000 (by decide) rfl, hrow 6 22050 (by decide) rfl, hrow 7 24000 (by decide) rfl,
      hrow 8 32000 (by decide) rfl, hrow 9 44100 (by decide) rfl, hrow 10 48000 (by decide) rfl,
      hrow 11 96000 (by decide) rfl, hext 12 8 1000 (by decide) rfl, hext 13 16 1 (by decide) rfl,
      hext 14 16 10 (by decide) rfl, element_faults hf hb rfl⟩
    rw [s.siRead_valid hs, s.drawAfterSi_valid hs] at hzero
    exact hzero
  · have hext : exec (.rateExt16Hz v) s = .next _ := element_ok _ hf hb
    rw [hext, Nat.mul_one]
    rfl

/-- Settles O40: the codes that R192 accepts, and the two kinds it rejects. -/
theorem channelAssignmentCodes : Obligations.ChannelAssignmentCodes := by
  intro s hf hb
  have hrow : ∀ c, caCodeFault c = none → caCode c s = .next { s with
      bitpos := s.bitpos + 4, work := { s.work with caCode := BitVec.ofNat 4 c, nch := channelsOf c } } :=
    fun c h => element_next hf hb (channelCode_accepted _ h)
  have hfault : ∀ c r, caCodeFault c = some r → FaultsWith (caCode c s) s r :=
    fun c r h => element_faults hf hb (channelCode_fault _ h)
  exact ⟨hrow 0 rfl, hrow 1 rfl, hfault 2 _ rfl, hfault 3 _ rfl, hfault 4 _ rfl, hfault 5 _ rfl, hfault 6 _ rfl,
    hfault 7 _ rfl, hrow 8 rfl, hrow 9 rfl, hrow 10 rfl, hfault 11 _ rfl, hfault 12 _ rfl, hfault 13 _ rfl,
    hfault 14 _ rfl, hfault 15 _ rfl⟩

/-- Settles O41: `sampleSizeCode_bits` and `sampleSizeCode_streaminfo` row by row, P07 for code 3. -/
theorem sampleSizeCodes : Obligations.SampleSizeCodes := by
  intro s hf hb
  have hrow : ∀ c n, c ≠ 3 → sampleSizeOf c = some n → ssCode c s = .next { s with
      bitpos := s.bitpos + 3, work := { s.work with ssCode := BitVec.ofNat 3 c, bps := n } } :=
    fun c n hc h => element_next hf hb (sampleSizeCode_bits _ h hc)
  have hzero : ssCode 0 s = .next { s with
      bitpos := s.bitpos + 3, draw := s.drawAfterSi
      work := { s.work with ssCode := 0, bps := s.siRead.bps.toNat } } :=
    element_next hf hb (sampleSizeCode_streaminfo _)
  refine ⟨fun hs => ?_, fun _ => ⟨_, _, hzero⟩, hrow 1 8 (by decide) rfl, hrow 2 12 (by decide) rfl,
    element_faults hf hb rfl, hrow 4 16 (by decide) rfl, hrow 5 20 (by decide) rfl, hrow 6 24 (by decide) rfl,
    hrow 7 32 (by decide) rfl⟩
  rw [s.siRead_valid hs, s.drawAfterSi_valid hs] at hzero
  exact hzero

end Sys2Proof.Machine
end

section
/-! The frame preamble as a whole, the coded number, and the words of the rules' own examples. -/

namespace Sys2Proof.Machine

/-! ## The preamble -/

theorem toNat_ne_of_ne {n : Nat} {x y : BitVec n} (h : x ≠ y) : x.toNat ≠ y.toNat :=
  fun e => h (BitVec.eq_of_toNat_eq e)

/-- The working values that a legal preamble leaves (R95, R180), `si` being what its codes 0 read. -/
def preambleWork (w : Work) (bs sr ca : BitVec 4) (ss : BitVec 3) (si : StreamInfo) : Work :=
  { w with
    bsCode := bs, srCode := sr, caCode := ca, ssCode := ss
    blocksize := if bs = 6 ∨ bs = 7 then w.blocksize else tableBlocksize bs.toNat 0
    rate := if sr.toNat ∈ [12, 13, 14] then w.rate else tableRate sr.toNat si.rate.toNat 0
    nch := if ca = 0 then 1 else 2
    bps := tableBps ss.toNat si.bps.toNat }

section
variable {s : State} {strategy : Bool} {bs sr ca : BitVec 4} {ss : BitVec 3}

/-- The state behind a legal blocksize code and a legal sample-rate code. -/
def State.afterRate (s : State) (bs sr : BitVec 4) : State :=
  { s with
    bitpos := s.bitpos + 32
    draw := if sr = 0 then s.drawAfterSi else s.draw
    work := { s.work with
      bsCode := bs
      blocksize := if bs = 6 ∨ bs = 7 then s.work.blocksize else tableBlocksize bs.toNat 0
      srCode := sr
      rate := if sr.toNat ∈ [12, 13, 14] then s.work.rate else tableRate sr.toNat s.siRead.rate.toNat 0 } }

theorem framePreamble_afterRate (hf : s.fault = false) (hb : s.bitpos + 32 ≤ s.bitLength) (hbs : bs ≠ 0)
    (hsr : sr ≠ 15) :
    execFramePreamble strategy bs sr ca ss s =
      seq (channelCode ca.toNat (s.afterRate bs sr)) (sampleSizeCode ss.toNat) := by
  rw [execFramePreamble, element_ok _ hf hb, blocksizeCode_legal _ hbs, seq_live, rateCode_legal _ hsr, seq_live]
  · rfl
  all_goals exact hf

/-- Four legal codes leave their table values, in stream order. -/
theorem framePreamble_legal (hf : s.fault = false) (hb : s.bitpos + 32 ≤ s.bitLength) (hbs : bs ≠ 0) (hsr : sr ≠ 15)
    (hca : ca.toNat ∈ [0, 1, 8, 9, 10]) (hss : ss ≠ 3) :
    ∃ (si : StreamInfo) (d : Nat), (s.siValid = true → si = s.si) ∧
      (s.siValid = true ∨ sr ≠ 0 ∧ ss ≠ 0 → d = s.draw) ∧
      execFramePreamble strategy bs sr ca ss s = .next { s with
        bitpos := s.bitpos + 32, draw := d, work := preambleWork s.work bs sr ca ss si } := by
  let u := s.afterRate bs sr
  have hdraw : u.draw = if sr = 0 then s.drawAfterSi else s.draw := rfl
  refine ⟨{ s.si with rate := s.siRead.rate, bps := u.siRead.bps }, if ss = 0 then u.drawAfterSi else u.draw,
    fun hv => ?_, fun hd => ?_, ?_⟩
  · rw [s.siRead_valid hv, u.siRead_valid hv]
    rfl
  · rcases hd with hv | ⟨hsr0, hss0⟩
    · rw [u.drawAfterSi_valid hv, ite_self, hdraw, s.drawAfterSi_valid hv, ite_self]
    · rw [if_neg hss0, hdraw, if_neg hsr0]
  · rw [framePreamble_afterRate hf hb hbs hsr, channelCode_legal _ hca, seq_live _ (by exact hf),
      sampleSizeCode_legal _ hss]
    rfl

end

/-- Settles O42: the codes take effect in stream order, so the first illegal one is the fault; the blocking strategy is
no operand of the meaning. -/
theorem framePreambleElement : Obligations.FramePreambleElement := by
  intro s strategy bs sr ca ss hf hb
  refine ⟨rfl, framePreamble_legal (strategy := strategy) hf hb, ?_, fun hbs => ?_, fun hbs hsr hca => ?_, fun hbs hsr hlo hhi => ?_,
    fun hbs hsr hca => ?_⟩
  · rintro rfl
    exact element_faults hf hb (seq_raise _ _ _)
  · rintro rfl
    refine element_faults hf hb ?_
    rw [blocksizeCode_legal _ hbs, seq_live _ (by exact hf)]
    exact seq_raise _ _ _
  · show FaultsWith (execFramePreamble strategy bs sr ca ss s) s _
    rw [framePreamble_afterRate hf hb hbs hsr, channelCode_fault _ (caCodeFault_reserved hca), seq_raise]
    exact faultsWith_raise rfl rfl rfl rfl rfl
  · show FaultsWith (execFramePreamble strategy bs sr ca ss s) s _
    rw [framePreamble_afterRate hf hb hbs hsr, channelCode_fault _ (caCodeFault_channels hlo hhi), seq_raise]
    exact faultsWith_raise rfl rfl rfl rfl rfl
  · rintro rfl
    show FaultsWith (execFramePreamble strategy bs sr ca 3 s) s _
    rw [framePreamble_afterRate hf hb hbs hsr, channelCode_legal _ hca, seq_live _ (by exact hf)]
    exact faultsWith_raise rfl rfl rfl rfl rfl

/-! ## The coded number -/

/-- `clz8` of a byte whose highest 1 bit is bit `m` (R134). -/
theorem clz8_of_range {b m : Nat} (hlo : 2 ^ m ≤ b) (hhi : b < 2 ^ (m + 1)) : clz8 b = 7 - m := by
  have hb : b ≠ 0 := by have : 0 < 2 ^ m := by positivity
                        omega
  have hlog : Nat.log2 b = m := (Nat.log2_eq_iff hb).2 ⟨hlo, hhi⟩
  rw [clz8, if_neg hb, hlog]

/-- The count of leading ones less one is the table's count of following bytes (R96). -/
theorem clz8_complement {b : Nat} (hb : b < 256) : clz8 (255 - b) - 1 = codedFollowing b := by
  unfold codedFollowing
  split_ifs with h₀ h₁ h₂ h₃ h₄ h₅ h₆
  · by_cases h : b < 128
    · rw [clz8_of_range (m := 7) (by omega) (by omega)]
    · rw [clz8_of_range (m := 6) (by omega) (by omega)]
  · rw [clz8_of_range (m := 5) (by omega) (by omega)]
  · rw [clz8_of_range (m := 4) (by omega) (by omega)]
  · rw [clz8_of_range (m := 3) (by omega) (by omega)]
  · rw [clz8_of_range (m := 2) (by omega) (by omega)]
  · rw [clz8_of_range (m := 1) (by omega) (by omega)]
  · rw [clz8_of_range (m := 0) (by omega) (by omega)]
  · obtain rfl : b = 255 := by omega
    rfl

/-- A decoded coded number is its first byte and the following bytes of the table. -/
theorem length_decoded_codedNumber {b : BitSrc} {i : Instr} (h : decodeCodedNumber b = .ok i) :
    (encode i).length = 8 + 8 * codedFollowing (b.field 0 8) := by
  have hlt : b.field 0 8 < 2 ^ 8 := BitSrc.field_lt
  unfold decodeCodedNumber at h
  simp only at h
  split_ifs at h
  · cases h
    rw [codedFollowing, if_pos (by omega)]
    rfl
  · cases h
    rw [codedFollowing, if_pos (by omega)]
    rfl
  all_goals obtain ⟨-, rfl⟩ := whole_eq_ok.1 h
  · rw [codedFollowing, if_neg (by omega), if_pos (by omega)]
    rfl
  · rw [codedFollowing, if_neg (by omega), if_neg (by omega), if_pos (by omega)]
    rfl
  · rw [codedFollowing, if_neg (by omega), if_neg (by omega), if_neg (by omega), if_pos (by omega)]
    rfl
  · rw [codedFollowing, if_neg (by omega), if_neg (by omega), if_neg (by omega), if_neg (by omega), if_pos (by omega)]
    rfl
  · rw [codedFollowing, if_neg (by omega), if_neg (by omega), if_neg (by omega), if_neg (by omega), if_neg (by omega), if_pos (by omega)]
    rfl
  · rw [codedFollowing, if_neg (by omega), if_neg (by omega), if_neg (by omega), if_neg (by omega), if_neg (by omega), if_neg (by omega), if_pos (by omega)]
    rfl
  · rw [codedFollowing, if_neg (by omega), if_neg (by omega), if_neg (by omega), if_neg (by omega), if_neg (by omega), if_neg (by omega), if_neg (by omega)]
    rfl

/-- Settles O43: each row is one element of whole bytes; the decoder's row for a first byte is the table's. -/
theorem codedNumberRows : Obligations.CodedNumberRows := by
  refine ⟨fun s hf => ⟨fun hb => ⟨fun _ => element_ok _ hf hb, fun _ => element_ok _ hf hb⟩,
    fun hb _ _ => element_ok _ hf hb, fun hb _ _ => element_ok _ hf hb, fun hb _ _ => element_ok _ hf hb,
    fun hb _ _ => element_ok _ hf hb, fun hb _ _ => element_ok _ hf hb, fun hb _ => element_ok _ hf hb,
    fun hb _ => element_ok _ hf hb⟩, fun c b i h => ?_⟩
  have hcount : clz8 (255 - b.field 0 8) - 1 = codedFollowing (b.field 0 8) := clz8_complement BitSrc.field_lt
  exact ⟨by rw [hcount]; exact length_decoded_codedNumber h, hcount⟩

/-! ## Words and numbers written out -/

/-- Settles O9: each word evaluates to the element of the rule's example. -/
theorem decodedWords : Obligations.DecodedWords := by
  unfold Obligations.DecodedWords
  decide

/-- Settles O10: the four numbers read back by evaluation; the refusal is the meaning of the number 3. -/
theorem commandPortNumbers : Obligations.CommandPortNumbers :=
  ⟨by decide, rfl, rfl, rfl, fun _ => rfl⟩

end Sys2Proof.Machine
end

section
/-! Running the parts of a subframe at the bits an encoder wrote for them: one leaf, one residual. -/

namespace Sys2Proof.Machine

/-! ## What a part reads -/

/-- From `s` to `t` `n` bits were read, and nothing was written but working registers and cells. -/
structure Reads (n : Nat) (s t : State) : Prop where
  frame : t = { s with bitpos := s.bitpos + n, work := t.work, sb0 := t.sb0, sb1 := t.sb1 }

section
variable {s t u : State} {m n : Nat}

theorem Reads.stream (h : Reads n s t) : t.stream = s.stream := by rw [h.frame]
theorem Reads.capacity (h : Reads n s t) : t.capacity = s.capacity := by rw [h.frame]
theorem Reads.bitpos (h : Reads n s t) : t.bitpos = s.bitpos + n := by rw [h.frame]
theorem Reads.fault (h : Reads n s t) : t.fault = s.fault := by rw [h.frame]
theorem Reads.fr (h : Reads n s t) : t.fr = s.fr := by rw [h.frame]
theorem Reads.bitLength (h : Reads n s t) : t.bitLength = s.bitLength := State.bitLength_congr s t h.stream

theorem Reads.refl (s : State) : Reads 0 s s := ⟨rfl⟩

theorem Reads.trans (h₁ : Reads m s t) (h₂ : Reads n t u) : Reads (m + n) s u :=
  ⟨h₂.frame.trans (by rw [h₁.frame, ← Nat.add_assoc])⟩

theorem Reads.cast (h : Reads m s t) (hmn : m = n) : Reads n s t := hmn ▸ h

theorem reads_setWork (s : State) (w : Work) : Reads 0 s (s.setWork w) := ⟨rfl⟩

/-- The state behind `n` bits that leave the working registers `w` and nothing else. -/
def State.readTo (s : State) (n : Nat) (w : Work) : State := { s with bitpos := s.bitpos + n, work := w }

theorem reads_readTo (s : State) (n : Nat) (w : Work) : Reads n s (s.readTo n w) := ⟨rfl⟩

@[simp] theorem State.readTo_work (s : State) (n : Nat) (w : Work) : (s.readTo n w).work = w := rfl

theorem element_readTo {f : State → Out} {w : Work} (hf : s.fault = false) (hb : s.bitpos + n ≤ s.bitLength)
    (hw : f (s.setBitpos (s.bitpos + n)) = .next ((s.setBitpos (s.bitpos + n)).setWork w)) :
    element n s f = .next (s.readTo n w) := element_next hf hb hw

/-- The next bits of a list that the stream holds lie where the part before it ended. -/
theorem Reads.carries {xs ys : List Bool} (h : Reads n s t) (hn : xs.length = n)
    (hc : carries s.stream s.bitpos (xs ++ ys)) : carries t.stream t.bitpos ys := by
  rw [h.stream, h.bitpos, ← hn]
  exact (carries_append.1 hc).2

end

/-! ## One leaf at its own bits -/

section
variable {s : State} {i : Instr} {k : Kind}

/-- Where the stream holds the bits of a leaf, the sequencer runs that leaf. -/
theorem runLeaf_encoded (hf : s.fault = false) (hw : i.WellFormed) (hk : i.kind? = some k)
    (ha : i.agrees s.elemCtx s.bitpos) (h : carries s.stream s.bitpos (encode i)) : runLeaf k s = execLeaf i s := by
  have hd : s.decodeAt k = .ok i := decodeElem_encode hw hk ha h
  rw [runLeaf, live_ok _ hf, hd]

end

/-! ## One residual -/

/-- From `s` to `t` a residual `v` of `n` bits was read and stored in the next cell (R250, R257). -/
structure Stores (n : Nat) (v : Int) (s t : State) : Prop where
  frame : t = { s with
    bitpos := s.bitpos + n, work := { s.work with index := s.work.index + 1 }, sb0 := t.sb0, sb1 := t.sb1 }
  writes : Writes s t s.work.ch s.work.index (s.work.index + 1) fun _ => v

/-- The folded zig-zag undoes its inverse (R255). -/
theorem zigzag_zigzagInv (v : Int) : zigzag (zigzagInv v) = v := by
  unfold zigzag zigzagInv
  split_ifs <;> omega

section
variable {s : State} {n k : Nat} {v : Int}

theorem element_stores (hf : s.fault = false) (hch : s.work.ch ≤ 1) (hi : s.work.index < s.capacity)
    (hv : inRange64 v = true) (hb : s.bitpos + n ≤ s.bitLength) :
    ∃ t, element n s (storeResidual v) = .next t ∧ Stores n v s t := by
  obtain ⟨t, ht, hframe, hwrites⟩ := storeResidual_spec v (s.setBitpos (s.bitpos + n)) hf hch hi hv
  exact ⟨t, element_next hf hb ht, hframe, hwrites.of_same_cells (fun _ _ => rfl) fun _ _ => rfl⟩

/-- A Rice word stores the value it encodes (R254). -/
theorem runLeaf_riceWord (hf : s.fault = false) (hch : s.work.ch ≤ 1) (hi : s.work.index < s.capacity)
    (hk : k ≤ 30) (hparam : s.work.param = k) (hv : inRange64 v = true)
    (h : carries s.stream s.bitpos (riceBits k v)) :
    ∃ t, runLeaf .riceWord s = .next t ∧ Stores (riceBits k v).length v s t := by
  have hr : zigzagInv v % 2 ^ k < 2 ^ k := Nat.mod_lt _ (by positivity)
  have hlen : (riceBits k v).length = zigzagInv v / 2 ^ k + 1 + k := by simp [riceBits]
  have hvalue : zigzag (zigzagInv v / 2 ^ k * 2 ^ k + zigzagInv v % 2 ^ k) = v := by
    rw [Nat.div_add_mod', zigzag_zigzagInv]
  rw [runLeaf_encoded (i := .riceWord k (zigzagInv v / 2 ^ k) (zigzagInv v % 2 ^ k)) hf
    (by simp [Instr.WellFormed, Instr.wellFormed, hk, hr]) rfl hparam h, hlen]
  show ∃ t, element _ s (storeResidual (zigzag _)) = _ ∧ _
  rw [hvalue]
  exact element_stores hf hch hi hv (hlen ▸ h.bound)

/-- A raw residual stores its field (R256). -/
theorem runLeaf_rawResidual (hf : s.fault = false) (hch : s.work.ch ≤ 1) (hi : s.work.index < s.capacity)
    (hn : n ≤ 31) (hwidth : s.work.bitCount = n) (hv : fitsSigned n v = true)
    (h : carries s.stream s.bitpos (signedBits n v)) :
    ∃ t, runLeaf .rawResidual s = .next t ∧ Stores (signedBits n v).length v s t := by
  rw [runLeaf_encoded (i := .rawResidual n v) hf (by simp [Instr.WellFormed, Instr.wellFormed, hn, hv]) rfl hwidth h,
    length_signedBits]
  exact element_stores hf hch hi (inRange64_of_fits (by omega) hv) (length_signedBits n v ▸ h.bound)

end

/-! ## Residuals one after the other -/

/-- Residuals read and stored from the cell `index` on, each by a leaf that stores it where the other registers are as in
`w`. -/
theorem residuals_spec {k : Kind} {w : Work} {f : Int → List Bool} (vs : List Int) (start : Nat) (s : State)
    (hstep : ∀ v ∈ vs, ∀ u : State, u.fault = false → u.work = { w with index := u.work.index } →
      u.work.index < u.capacity → carries u.stream u.bitpos (f v) →
      ∃ t, runLeaf k u = .next t ∧ Stores (f v).length v u t)
    (hf : s.fault = false) (hw : s.work = { w with index := s.work.index })
    (hcap : s.work.index + vs.length ≤ s.capacity) (h : carries s.stream s.bitpos (vs.flatMap f)) :
    ∃ t, forRange vs.length start (fun _ s => runLeaf k s) s = .next t ∧
      Reads (vs.flatMap f).length s t ∧ t.work = { w with index := s.work.index + vs.length } ∧
      Writes s t w.ch s.work.index (s.work.index + vs.length) fun i => vs.getD (i - s.work.index) 0 := by
  induction vs generalizing s start with
  | nil => exact ⟨s, rfl, .refl s, hw, Writes.none _ _ _ _⟩
  | cons v vs ih =>
    simp only [List.length_cons] at hcap
    obtain ⟨u, hu, hframe, hone⟩ := hstep v (by simp) s hf hw (by omega) (carries_append.1 h).1
    have hread : Reads (f v).length s u := ⟨by rw [hframe]⟩
    have hindex : u.work = { w with index := s.work.index + 1 } := by rw [hframe, hw]
    have huf : u.fault = false := by rw [hread.fault, hf]
    have hch : s.work.ch = w.ch := by rw [hw]
    obtain ⟨t, ht, hrest, hwork, hmany⟩ := ih (start + 1) u (fun x hx => hstep x (by simp [hx])) huf
      (by rw [hindex]) (by rw [hindex, hread.capacity]; show s.work.index + 1 + _ ≤ _; omega) (hread.carries rfl h)
    have hui : u.work.index = s.work.index + 1 := by rw [hindex]
    rw [hui] at hwork hmany
    refine ⟨t, ?_, (hread.trans hrest).cast (by simp), by rw [hwork, List.length_cons]; congr 1; omega, ?_⟩
    · rw [List.length_cons, forRange_succ, hu, seq_live _ huf, ht]
    · rw [hch] at hone
      have hlen : s.work.index + 1 + vs.length = s.work.index + (v :: vs).length := by rw [List.length_cons]; omega
      rw [hlen] at hmany
      refine (hone.congr fun i hlo hhi => ?_).append (hmany.congr fun i hlo hhi => ?_) (by omega)
        (by rw [List.length_cons]; omega)
      · obtain rfl : i = s.work.index := by omega
        simp
      · rw [show i - s.work.index = i - (s.work.index + 1) + 1 by omega, List.getD_cons_succ]

end Sys2Proof.Machine
end

section
/-! The residual as an encoder writes it: its parameters, its partitions, its header (R250 to R257). -/

namespace Sys2Proof.Machine

/-! ## A partition's parameter -/

section
variable {s : State} {v : Nat}

theorem execLeaf_param4Row (hv : v < 2 ^ 4) (s : State) :
    execLeaf (param4Row v) s =
      element 4 s fun s => .next (s.setWork { s.work with param := v, escaped := decide (v = 15) }) := by
  interval_cases v <;> rfl

theorem execLeaf_param5Row (hv : v < 2 ^ 5) (s : State) :
    execLeaf (param5Row v) s =
      element 5 s fun s => .next (s.setWork { s.work with param := v, escaped := decide (v = 31) }) := by
  interval_cases v <;> rfl

theorem param4Row_plain (v : Nat) (c : ElemCtx) (p : Nat) : (param4Row v).WellFormed ∧ (param4Row v).agrees c p := by
  unfold param4Row
  split <;> exact ⟨rfl, trivial⟩

theorem param5Row_plain (v : Nat) (c : ElemCtx) (p : Nat) : (param5Row v).WellFormed ∧ (param5Row v).agrees c p := by
  unfold param5Row
  split <;> exact ⟨rfl, trivial⟩

/-- A parameter is read in its method's width, all ones being the escape (R117, R253). -/
theorem runLeaf_param (hf : s.fault = false) (hv : v < 2 ^ paramWidth s.work.method)
    (h : carries s.stream s.bitpos (bitsOf (paramWidth s.work.method) v)) :
    runLeaf (if s.work.method = 0 then .param4 else .param5) s = .next (s.readTo (paramWidth s.work.method)
      { s.work with param := v, escaped := decide (v = 2 ^ paramWidth s.work.method - 1) }) := by
  have hb := h.bound
  rw [length_bitsOf] at hb
  by_cases hm : s.work.method = 0
  · have hw : paramWidth s.work.method = 4 := if_pos hm
    rw [hw] at hv h hb ⊢
    obtain ⟨hwf, ha⟩ := param4Row_plain v s.elemCtx s.bitpos
    rw [if_pos hm, runLeaf_encoded hf hwf (kind_param4Row v) ha (encodesRows_param4 v hv ▸ h), execLeaf_param4Row hv]
    exact element_readTo hf hb rfl
  · have hw : paramWidth s.work.method = 5 := if_neg hm
    rw [hw] at hv h hb ⊢
    obtain ⟨hwf, ha⟩ := param5Row_plain v s.elemCtx s.bitpos
    rw [if_neg hm, runLeaf_encoded hf hwf (kind_param5Row v) ha (encodesRows_param5 v hv ▸ h), execLeaf_param5Row hv]
    exact element_readTo hf hb rfl

theorem runLeaf_riceParam (hf : s.fault = false) (hv : v < 2 ^ paramWidth s.work.method - 1)
    (h : carries s.stream s.bitpos (bitsOf (paramWidth s.work.method) v)) :
    runLeaf (if s.work.method = 0 then .param4 else .param5) s =
      .next (s.readTo (paramWidth s.work.method) { s.work with param := v, escaped := false }) := by
  rw [runLeaf_param hf (by omega) h, decide_eq_false (by omega)]

theorem runLeaf_escapeParam (hf : s.fault = false)
    (h : carries s.stream s.bitpos (bitsOf (paramWidth s.work.method) (2 ^ paramWidth s.work.method - 1))) :
    runLeaf (if s.work.method = 0 then .param4 else .param5) s =
      .next (s.readTo (paramWidth s.work.method)
        { s.work with param := 2 ^ paramWidth s.work.method - 1, escaped := true }) := by
  have hpos : 0 < 2 ^ paramWidth s.work.method := by positivity
  rw [runLeaf_param hf (by omega) h, decide_eq_true rfl]

/-- The escaped partition's width (R256). -/
theorem runLeaf_escapeWidth {n : Nat} (hf : s.fault = false) (hn : n ≤ 31)
    (h : carries s.stream s.bitpos (bitsOf 5 n)) :
    runLeaf .escapeWidth s = .next (s.readTo 5 { s.work with bitCount := n }) := by
  have hn' : (BitVec.ofNat 5 n).toNat = n := by rw [BitVec.toNat_ofNat, Nat.mod_eq_of_lt (by omega)]
  have hb := h.bound
  rw [length_bitsOf] at hb
  rw [runLeaf_encoded (i := .escapeWidth (BitVec.ofNat 5 n)) hf rfl rfl trivial (by rw [encode, hn']; exact h)]
  refine element_readTo hf hb ?_
  rw [hn']
  rfl

end

/-! ## A partition -/

/-- A partition whose first cell is `index`, of `count` residuals. -/
def partitionBody (count : Nat) (s : State) : Out :=
  seq (runLeaf (if s.work.method = 0 then .param4 else .param5) s) fun s =>
    if s.work.escaped then seq (runLeaf .escapeWidth s) (residuals .rawResidual count)
    else residuals .riceWord count s

/-- The registers that a partition does not write. -/
def SamePartition (w v : Work) : Prop :=
  v = { w with param := v.param, escaped := v.escaped, bitCount := v.bitCount, index := v.index }

/-- A partition as written is read back into its cells. -/
theorem partitionBody_spec (q : PartitionPlan) (s : State) (hf : s.fault = false) (hch : s.work.ch ≤ 1)
    (hcap : s.work.index + q.values.length ≤ s.capacity) (hq : q.legal s.work.method)
    (h : carries s.stream s.bitpos (q.bits s.work.method)) :
    ∃ t, partitionBody q.values.length s = .next t ∧ Reads (q.bits s.work.method).length s t ∧
      SamePartition s.work t.work ∧
      Writes s t s.work.ch s.work.index (s.work.index + q.values.length) fun c =>
        q.values.getD (c - s.work.index) 0 := by
  unfold partitionBody
  cases q with
  | rice k vs =>
    obtain ⟨hk, hvs⟩ := hq
    have hk30 : k ≤ 30 := by
      unfold paramWidth at hk
      split at hk <;> omega
    simp only [PartitionPlan.bits, PartitionPlan.values] at *
    let w : Work := { s.work with param := k, escaped := false }
    have hread := reads_readTo s (paramWidth s.work.method) w
    obtain ⟨t, ht, hrest, hwork, hwrites⟩ := residuals_spec (k := .riceWord) (w := w) vs 0
      (s.readTo (paramWidth s.work.method) w)
      (fun v hv u huf huw hui hc => runLeaf_riceWord huf (by rw [huw]; exact hch) hui hk30 (by rw [huw])
        (hvs v hv) hc) hf rfl hcap (hread.carries (length_bitsOf _ _) h)
    refine ⟨t, ?_, (hread.trans hrest).cast (by simp), by rw [hwork]; rfl, hwrites⟩
    rw [runLeaf_riceParam hf hk (carries_append.1 h).1, seq_live _ (by exact hf)]
    exact ht
  | escaped n vs =>
    obtain ⟨hn, hvs⟩ := hq
    simp only [PartitionPlan.bits, PartitionPlan.values, List.append_assoc] at *
    let w₁ : Work := { s.work with param := 2 ^ paramWidth s.work.method - 1, escaped := true }
    let w₂ : Work := { w₁ with bitCount := n }
    let s₁ := s.readTo (paramWidth s.work.method) w₁
    have hread₁ : Reads _ s s₁ := reads_readTo _ _ _
    have hread₂ : Reads 5 s₁ (s₁.readTo 5 w₂) := reads_readTo _ _ _
    have hc := hread₁.carries (length_bitsOf _ _) h
    obtain ⟨t, ht, hrest, hwork, hwrites⟩ := residuals_spec (k := .rawResidual) (w := w₂) vs 0 (s₁.readTo 5 w₂)
      (fun v hv u huf huw hui hc => runLeaf_rawResidual huf (by rw [huw]; exact hch) hui hn (by rw [huw])
        (hvs v hv) hc) hf rfl hcap (hread₂.carries (length_bitsOf _ _) hc)
    refine ⟨t, ?_, ((hread₁.trans hread₂).trans hrest).cast (by simp; omega), by rw [hwork]; rfl, hwrites⟩
    have hwidth : runLeaf .escapeWidth s₁ = .next (s₁.readTo 5 w₂) := runLeaf_escapeWidth hf hn (carries_append.1 hc).1
    rw [runLeaf_escapeParam hf (carries_append.1 h).1, seq_live _ (by exact hf), State.readTo_work, if_pos rfl]
    show seq (runLeaf .escapeWidth s₁) _ = _
    rw [hwidth, seq_live _ (by exact hf)]
    exact ht

end Sys2Proof.Machine
end

section
/-! The partitions of a residual one after the other, and the residual behind its header. -/

namespace Sys2Proof.Machine

theorem SamePartition.refl (w : Work) : SamePartition w w := rfl

theorem SamePartition.trans {w v u : Work} (h₁ : SamePartition w v) (h₂ : SamePartition v u) : SamePartition w u :=
  Eq.trans h₂ (by rw [show v = _ from h₁])

/-- The registers that a residual does not write are those beside its own. -/
theorem SamePartition.keeps {w v : Work} (h : SamePartition w v) :
    v.ch = w.ch ∧ v.method = w.method ∧ v.psize = w.psize ∧ v.w = w.w ∧ v.bpsEff = w.bpsEff := by
  rw [show v = _ from h]
  exact ⟨rfl, rfl, rfl, rfl, rfl⟩

/-- The first cell of partition `i` (R250, R252). -/
def partitionStart (order psize i : Nat) : Nat := if i = 0 then order else i * psize

theorem partitionStart_succ (order psize i : Nat) : partitionStart order psize (i + 1) = (i + 1) * psize := rfl

theorem partition_eq (order i : Nat) (s : State) :
    partition order i s =
      partitionBody (partitionStart order s.work.psize (i + 1) - partitionStart order s.work.psize i)
        (s.setWork { s.work with index := partitionStart order s.work.psize i }) := rfl

/-- A partition as written is read back into the cells from its start to the next one's. -/
theorem partition_spec {order i : Nat} (q : PartitionPlan) (s : State) (hf : s.fault = false) (hch : s.work.ch ≤ 1)
    (hlen : partitionStart order s.work.psize i + q.values.length = partitionStart order s.work.psize (i + 1))
    (hcap : partitionStart order s.work.psize (i + 1) ≤ s.capacity) (hq : q.legal s.work.method)
    (h : carries s.stream s.bitpos (q.bits s.work.method)) :
    ∃ t, partition order i s = .next t ∧ Reads (q.bits s.work.method).length s t ∧ SamePartition s.work t.work ∧
      Writes s t s.work.ch (partitionStart order s.work.psize i) (partitionStart order s.work.psize (i + 1)) fun c =>
        q.values.getD (c - partitionStart order s.work.psize i) 0 := by
  obtain ⟨t, ht, hread, hsame, hwrites⟩ := partitionBody_spec q
    (s.setWork { s.work with index := partitionStart order s.work.psize i }) hf hch (hlen ▸ hcap) hq h
  refine ⟨t, ?_, ⟨hread.frame⟩, hsame, hlen ▸ hwrites⟩
  rw [partition_eq, ← ht]
  congr 1
  omega

/-- What makes a list of partitions one that partition `i` and the following ones are: the values of each fill its
cells, and the last cell exists. -/
def PartitionsFit (order psize method n : Nat) (parts : List PartitionPlan) (i : Nat) : Prop :=
  ∀ j, j < parts.length →
    partitionStart order psize (i + j) + (parts.getD j (.rice 0 [])).values.length =
      partitionStart order psize (i + j + 1) ∧
    partitionStart order psize (i + j + 1) ≤ n ∧ (parts.getD j (.rice 0 [])).legal method

theorem PartitionsFit.tail {order psize method n i : Nat} {q : PartitionPlan} {parts : List PartitionPlan}
    (h : PartitionsFit order psize method n (q :: parts) i) : PartitionsFit order psize method n parts (i + 1) := by
  intro j hj
  have hnext := h (j + 1) (by simpa using hj)
  rwa [List.getD_cons_succ, show i + (j + 1) = i + 1 + j by omega] at hnext

/-- Partitions as written are read back into the cells from the first's on. -/
theorem partitions_spec {order : Nat} (parts : List PartitionPlan) (i : Nat) (s : State) (hf : s.fault = false)
    (hch : s.work.ch ≤ 1) (hparts : PartitionsFit order s.work.psize s.work.method s.capacity parts i)
    (h : carries s.stream s.bitpos (parts.flatMap (PartitionPlan.bits s.work.method))) :
    ∃ t, forRange parts.length i (partition order) s = .next t ∧
      Reads (parts.flatMap (PartitionPlan.bits s.work.method)).length s t ∧ SamePartition s.work t.work ∧
      Writes s t s.work.ch (partitionStart order s.work.psize i)
        (partitionStart order s.work.psize (i + parts.length)) fun c =>
          (parts.flatMap PartitionPlan.values).getD (c - partitionStart order s.work.psize i) 0 := by
  induction parts generalizing i s with
  | nil => exact ⟨s, rfl, .refl s, .refl _, Writes.none _ _ _ _⟩
  | cons q parts ih =>
    obtain ⟨hlen, hend, hq⟩ := hparts 0 (by simp)
    rw [Nat.add_zero, List.getD_cons_zero] at hlen
    rw [Nat.add_zero] at hend
    obtain ⟨u, hu, hread, hsame, hone⟩ := partition_spec q s hf hch hlen hend hq (carries_append.1 h).1
    obtain ⟨hkch, hkm, hkp, -, -⟩ := hsame.keeps
    have huf : u.fault = false := by rw [hread.fault, hf]
    have hrest := ih (i + 1) u huf (by rw [hkch]; exact hch)
      (by rw [hkp, hkm, hread.capacity]; exact hparts.tail) (by rw [hkm]; exact hread.carries rfl h)
    rw [hkm, hkp, hkch] at hrest
    obtain ⟨t, ht, hread', hsame', hmany⟩ := hrest
    refine ⟨t, ?_, (hread.trans hread').cast (by simp), hsame.trans hsame', ?_⟩
    · rw [List.length_cons, forRange_succ, hu, seq_live _ huf, ht]
    · have hcount : i + 1 + parts.length = i + (q :: parts).length := by rw [List.length_cons]; omega
      rw [hcount] at hmany
      have hmono : partitionStart order s.work.psize (i + 1) ≤
          partitionStart order s.work.psize (i + (q :: parts).length) := by
        rw [List.length_cons, show i + (parts.length + 1) = i + parts.length + 1 by omega]
        exact Nat.mul_le_mul_right _ (by omega)
      refine (hone.congr fun c hlo hhi => ?_).append (hmany.congr fun c hlo hhi => ?_) (by omega) hmono
      · rw [List.flatMap_cons, List.getD_append _ _ _ _ (by omega)]
      · rw [List.flatMap_cons, List.getD_append_right _ _ _ _ (by omega)]
        congr 1
        omega

/-! ## The residual -/

/-- The header of a residual that the block may have (R106, R251). -/
theorem runLeaf_residualHdr {s : State} {method po : Nat} (hf : s.fault = false) (hm : method ≤ 1) (hpo : po ≤ 15)
    (hdiv : s.blocksize % 2 ^ po = 0) (horder : s.work.order ≤ s.blocksize / 2 ^ po)
    (h : carries s.stream s.bitpos (bitsOf 2 method ++ bitsOf 4 po)) :
    runLeaf .residualHdr s = .next (s.readTo 6
      { s.work with method := method, po := po, pcount := 2 ^ po, psize := s.blocksize / 2 ^ po }) := by
  have hb : s.bitpos + 6 ≤ s.bitLength := h.bound
  have hpo' : (BitVec.ofNat 4 po).toNat = po := by rw [BitVec.toNat_ofNat, Nat.mod_eq_of_lt (by omega)]
  have hrun : residualHeader method po s = .next (s.readTo 6
      { s.work with method := method, po := po, pcount := 2 ^ po, psize := s.blocksize / 2 ^ po }) := by
    refine element_readTo hf hb ?_
    exact (if_neg (not_not.2 hdiv)).trans (if_neg horder.not_gt)
  rcases (by omega : method = 0 ∨ method = 1) with rfl | rfl
  · rw [runLeaf_encoded (i := .residualMethod0 (BitVec.ofNat 4 po)) hf rfl rfl trivial (by rw [encode, hpo']; exact h),
      ← hrun]
    show residualHeader 0 (BitVec.ofNat 4 po).toNat s = _
    rw [hpo']
  · rw [runLeaf_encoded (i := .residualMethod1 (BitVec.ofNat 4 po)) hf rfl rfl trivial (by rw [encode, hpo']; exact h),
      ← hrun]
    show residualHeader 1 (BitVec.ofNat 4 po).toNat s = _
    rw [hpo']

/-- The partitions of a legal residual fit the block (R251, R252). -/
theorem ResidualPlan.legal.fit {p : ResidualPlan} {order blocksize n : Nat} (hp : p.legal order blocksize)
    (hn : blocksize ≤ n) : PartitionsFit order (blocksize / 2 ^ p.po) p.method n p.parts 0 := by
  obtain ⟨-, -, hdiv, horder, hcount, hlegal, hlen⟩ := hp
  intro j hj
  have hmem : p.parts.getD j (.rice 0 []) ∈ p.parts := by
    rw [List.getD_eq_getElem _ _ hj]
    exact List.getElem_mem hj
  have hend : (j + 1) * (blocksize / 2 ^ p.po) ≤ blocksize := by
    calc (j + 1) * (blocksize / 2 ^ p.po) ≤ 2 ^ p.po * (blocksize / 2 ^ p.po) := Nat.mul_le_mul_right _ (by omega)
      _ ≤ blocksize := Nat.mul_div_le _ _
  rw [Nat.zero_add, partitionStart_succ, hlen j hj]
  refine ⟨?_, hend.trans hn, hlegal _ hmem⟩
  unfold partitionStart
  split
  · next h0 => subst h0; omega
  · rw [Nat.add_mul]; omega

/-- A residual as written is read back into the cells from the order up to the blocksize (R250, R257). -/
theorem decodeResidual_spec {order : Nat} (p : ResidualPlan) (s : State) (hf : s.fault = false) (hch : s.work.ch ≤ 1)
    (hcap : s.blocksize ≤ s.capacity) (ho : s.work.order = order) (hp : p.legal order s.blocksize)
    (h : carries s.stream s.bitpos p.bits) :
    ∃ t, decodeResidual order s = .next t ∧ Reads p.bits.length s t ∧ t.work.ch = s.work.ch ∧ t.work.w = s.work.w ∧
      t.work.bpsEff = s.work.bpsEff ∧
      Writes s t s.work.ch order s.blocksize fun i => p.values.getD (i - order) 0 := by
  have hfit := hp.fit hcap
  obtain ⟨hm, hpo, hdiv, horder, hcount, -, -⟩ := hp
  obtain ⟨hhdr, hparts⟩ := carries_append.1 h
  let u := s.readTo 6
    { s.work with method := p.method, po := p.po, pcount := 2 ^ p.po, psize := s.blocksize / 2 ^ p.po }
  have hu : runLeaf .residualHdr s = .next u := runLeaf_residualHdr hf hm hpo hdiv (ho ▸ horder) hhdr
  have hread : Reads 6 s u := reads_readTo _ _ _
  obtain ⟨t, ht, hread', hsame, hwrites⟩ := partitions_spec (order := order) p.parts 0 u hf hch hfit hparts
  obtain ⟨hkch, -, -, hkw, hkb⟩ := hsame.keeps
  refine ⟨t, ?_, (hread.trans hread').cast ?_, hkch, hkw, hkb, ?_⟩
  · rw [decodeResidual, hu, seq_live _ (by exact hf)]
    show forRange (2 ^ p.po) 0 (partition order) u = _
    rw [← hcount]
    exact ht
  · show 6 + (p.parts.flatMap (PartitionPlan.bits p.method)).length = _
    rw [ResidualPlan.bits, List.length_append, List.length_append, length_bitsOf, length_bitsOf]
  · have hlast : partitionStart order (s.blocksize / 2 ^ p.po) (0 + p.parts.length) = s.blocksize := by
      have hpos : 2 ^ p.po ≠ 0 := by positivity
      rw [Nat.zero_add, hcount, partitionStart, if_neg hpos, Nat.mul_div_cancel' (Nat.dvd_of_mod_eq_zero hdiv)]
    have hcells := hlast ▸ hwrites
    exact hcells.of_same_cells (fun _ _ => rfl) fun _ _ => rfl

end Sys2Proof.Machine
end

section
/-! The bodies of a subframe as an encoder writes them (R102 to R105, R216 to R222). -/

namespace Sys2Proof.Machine

/-! ## Loops over the cells of a channel -/

/-- A loop whose round `i` writes `x i` to the cell `i` of a channel. -/
theorem cellLoop_spec {f : Nat → State → Out} {c count : Nat} {x : Nat → Int} (s : State) (hf : s.fault = false)
    (hstep : ∀ i u, i < count → u = { s with sb0 := u.sb0, sb1 := u.sb1 } → Writes s u c 0 i x →
      ∃ t, f i u = .next t ∧ t = { u with sb0 := t.sb0, sb1 := t.sb1 } ∧ Writes u t c i (i + 1) fun _ => x i) :
    ∃ t, forRange count 0 f s = .next t ∧ t = { s with sb0 := t.sb0, sb1 := t.sb1 } ∧ Writes s t c 0 count x := by
  obtain ⟨t, ht, -, hframe, hwrites⟩ := forRange_total (f := f) count 0 s
    (I := fun i u => u = { s with sb0 := u.sb0, sb1 := u.sb1 } ∧ Writes s u c 0 i x)
    (fun i u _ hi hul ⟨hu, hsofar⟩ => by
      obtain ⟨t, ht, hframe, hone⟩ := hstep i u (by omega) hu hsofar
      refine ⟨t, ht, by rw [hframe]; exact hul, by rw [hframe, hu], hsofar.append (hone.congr fun j hlo hhi => ?_)
        (by omega) (by omega)⟩
      obtain rfl : j = i := by omega
      rfl)
    hf ⟨rfl, Writes.none _ _ _ _⟩
  exact ⟨t, ht, hframe, by simpa using hwrites⟩

/-! ## Runs of signed fields -/

theorem length_flatMap_signedBits (w : Nat) (xs : List Int) : (xs.flatMap (signedBits w)).length = xs.length * w := by
  simp [List.length_flatMap]

/-- The fields of a run read back, one by one. -/
theorem sext_field_of_carries {bytes : List Byte} {w : Nat} (xs : List Int) (p i : Nat) (hi : i < xs.length)
    (hx : ∀ x ∈ xs, fitsSigned w x = true) (h : carries bytes p (xs.flatMap (signedBits w))) :
    sext w (memRead bytes (p + i * w) w) = xs.getD i 0 := by
  induction xs generalizing p i with
  | nil => simp at hi
  | cons x xs ih =>
    obtain ⟨hfirst, hrest⟩ := carries_append.1 h
    cases i with
    | zero => simpa using sext_of_carries hfirst (hx x (by simp))
    | succ i =>
      rw [length_signedBits] at hrest
      rw [List.getD_cons_succ, ← ih (p + w) i (by simpa using hi) (fun y hy => hx y (by simp [hy])) hrest, Nat.succ_mul,
        Nat.add_comm (i * w), ← Nat.add_assoc]

/-- A run of signed fields as written is read back into the first cells of the channel (R217). -/
theorem readSamples_fields (xs : List Int) (s : State) (hf : s.fault = false) (hch : s.work.ch ≤ 1)
    (hcap : xs.length ≤ s.capacity) (hb : s.work.bpsEff ≤ 64) (hx : ∀ x ∈ xs, fitsSigned s.work.bpsEff x = true)
    (h : carries s.stream s.bitpos (xs.flatMap (signedBits s.work.bpsEff))) :
    ∃ t, readSamples xs.length s = .next t ∧ Reads (xs.flatMap (signedBits s.work.bpsEff)).length s t ∧
      t.work = s.work ∧ Writes s t s.work.ch 0 xs.length fun i => xs.getD i 0 := by
  have hlen := length_flatMap_signedBits s.work.bpsEff xs
  obtain ⟨t, ht, -, hframe, hwrites⟩ := readSamples_spec xs.length s hf hch hcap hb (hlen ▸ h.bound)
  exact ⟨t, ht, ⟨by rw [hframe, hlen]⟩, by rw [hframe],
    hwrites.congr fun i _ hi => sext_field_of_carries xs s.bitpos i hi hx h⟩

/-! ## What a body leaves -/

/-- The registers of the channel being decoded. -/
def SameChannel (s t : State) : Prop := t.work.ch = s.work.ch ∧ t.work.w = s.work.w ∧ t.work.bpsEff = s.work.bpsEff

theorem SameChannel.of_work {s t : State} (h : t.work = s.work) : SameChannel s t := by
  rw [SameChannel, h]
  exact ⟨rfl, rfl, rfl⟩

theorem SameChannel.trans {s t u : State} (h₁ : SameChannel s t) (h₂ : SameChannel t u) : SameChannel s u := by
  obtain ⟨hch, hw, hb⟩ := h₁
  obtain ⟨hch', hw', hb'⟩ := h₂
  exact ⟨hch'.trans hch, hw'.trans hw, hb'.trans hb⟩

/-- From `s` to `t` `n` bits were read, and nothing was written but working registers, cells and the predictor's
registers. -/
structure Decodes (n : Nat) (s t : State) : Prop where
  frame : t = { s with
    bitpos := s.bitpos + n, work := t.work, sb0 := t.sb0, sb1 := t.sb1, coef := t.coef, lpcPrec := t.lpcPrec
    lpcShift := t.lpcShift }

section
variable {s t u : State} {m n : Nat}

theorem Reads.decodes (h : Reads n s t) : Decodes n s t := ⟨by rw [h.frame]⟩

theorem Decodes.stream (h : Decodes n s t) : t.stream = s.stream := by rw [h.frame]
theorem Decodes.capacity (h : Decodes n s t) : t.capacity = s.capacity := by rw [h.frame]
theorem Decodes.bitpos (h : Decodes n s t) : t.bitpos = s.bitpos + n := by rw [h.frame]
theorem Decodes.fault (h : Decodes n s t) : t.fault = s.fault := by rw [h.frame]
theorem Decodes.fr (h : Decodes n s t) : t.fr = s.fr := by rw [h.frame]
theorem Decodes.blocksize (h : Decodes n s t) : t.blocksize = s.blocksize := by rw [State.blocksize, h.fr]; rfl

theorem Decodes.trans (h₁ : Decodes m s t) (h₂ : Decodes n t u) : Decodes (m + n) s u :=
  ⟨h₂.frame.trans (by rw [h₁.frame, ← Nat.add_assoc])⟩

theorem Decodes.cast (h : Decodes m s t) (hmn : m = n) : Decodes n s t := hmn ▸ h

theorem Decodes.carries {xs ys : List Bool} (h : Decodes n s t) (hn : xs.length = n)
    (hc : carries s.stream s.bitpos (xs ++ ys)) : carries t.stream t.bitpos ys := by
  rw [h.stream, h.bitpos, ← hn]
  exact (carries_append.1 hc).2

end

/-- From `s` to `t` a body of `n` bits was read that leaves the samples `y` in the channel. -/
structure Fills (n : Nat) (y : Nat → Int) (s t : State) : Prop where
  decodes : Decodes n s t
  same : SameChannel s t
  writes : Writes s t s.work.ch 0 s.blocksize y

theorem Fills.of_reads {n : Nat} {y : Nat → Int} {s t : State} (h : Reads n s t) (hs : SameChannel s t)
    (hw : Writes s t s.work.ch 0 s.blocksize y) : Fills n y s t := ⟨h.decodes, hs, hw⟩

/-! ## CONSTANT and VERBATIM -/

section
variable {s : State} {v : Int} {y : Nat → Int}

theorem constantBody_fills (hf : s.fault = false) (hch : s.work.ch ≤ 1) (hcap : s.blocksize ≤ s.capacity)
    (h1 : 1 ≤ s.work.bpsEff) (hb : s.work.bpsEff ≤ 64) (hv : fitsSigned s.work.bpsEff v = true)
    (h : carries s.stream s.bitpos (signedBits s.work.bpsEff v)) :
    ∃ t, runLeaf .constantBody s = .next t ∧ Fills s.work.bpsEff (fun _ => v) s t := by
  have hroom : s.bitpos + s.work.bpsEff ≤ s.bitLength := length_signedBits s.work.bpsEff v ▸ h.bound
  rw [runLeaf_encoded (i := .constantBody s.work.bpsEff v) hf
    (by simp [Instr.WellFormed, Instr.wellFormed, Config.maxField, h1, hb, hv]) rfl rfl h]
  obtain ⟨t, ht, hframe, hwrites⟩ := cellLoop_spec (c := s.work.ch) (count := s.blocksize) (x := fun _ => v)
    (f := fun i s => writeX i v s) (s.setBitpos (s.bitpos + s.work.bpsEff)) hf fun i u hi hu _ => by
      have hwork : u.work.ch = s.work.ch := by rw [hu]; rfl
      have hcapacity : u.capacity = s.capacity := by rw [hu]; rfl
      rw [writeX, hwork]
      exact writeSample_spec (i := i) hch (by rw [hcapacity]; omega) (inRange64_of_fits hb hv)
  have hwork : t.work = s.work := by rw [hframe]; rfl
  refine ⟨t, (element_next hf hroom ht), .of_reads ⟨?_⟩ (.of_work hwork) hwrites⟩
  rw [hframe]
  rfl

theorem verbatimBody_fills (xs : List Int) (hf : s.fault = false) (hch : s.work.ch ≤ 1) (hcap : s.blocksize ≤ s.capacity)
    (hb : s.work.bpsEff ≤ 64) (hlen : xs.length = s.blocksize) (hx : ∀ x ∈ xs, fitsSigned s.work.bpsEff x = true)
    (h : carries s.stream s.bitpos (xs.flatMap (signedBits s.work.bpsEff))) :
    ∃ t, execVerbatimBody s = .next t ∧
      Fills (xs.flatMap (signedBits s.work.bpsEff)).length (fun i => xs.getD i 0) s t := by
  obtain ⟨t, ht, hread, hwork, hwrites⟩ := readSamples_fields xs s hf hch (by omega) hb hx h
  exact ⟨t, by rw [execVerbatimBody, live_ok _ hf, ← hlen, ht], .of_reads hread (.of_work hwork) (hlen ▸ hwrites)⟩

end

/-! ## Prediction -/

theorem checkOrder_ok {order : Nat} {s : State} (h : order ≤ s.blocksize) :
    checkOrder order s = .next (s.setWork { s.work with order := order }) := if_neg h.not_gt

theorem length_fixedCoef (order : Fin 5) : (fixedCoef order).length = order.val := by
  revert order
  decide

/-- The residual and the restoration behind a warmup that stands in its cells (R221). -/
theorem residualRestored_spec {s : State} {c warmup : List Int} {shift : Nat} {y : Nat → Int} {coefs : State → List Int}
    {shifts : State → Nat} (p : ResidualPlan) (hf : s.fault = false) (hch : s.work.ch ≤ 1)
    (hcap : s.blocksize ≤ s.capacity) (ho : s.work.order = c.length) (hle : c.length ≤ s.blocksize)
    (hp : p.legal c.length s.blocksize) (hy : Predicted c shift warmup p.values s.blocksize y)
    (hw : ∀ i, i < c.length → s.x i = warmup.getD i 0)
    (hregs : ∀ n u, Reads n s u → coefs u = c ∧ shifts u = shift) (h : carries s.stream s.bitpos p.bits) :
    ∃ t, seq (decodeResidual c.length s) (fun s => restore c.length (coefs s) (shifts s) s) = .next t ∧
      Reads p.bits.length s t ∧ SameChannel s t ∧ Writes s t s.work.ch c.length s.blocksize y := by
  obtain ⟨u, hu, hread, hkch, hkw, hkb, hres⟩ := decodeResidual_spec p s hf hch hcap ho hp h
  obtain ⟨hcoefs, hshift⟩ := hregs _ u hread
  have huf : u.fault = false := by rw [hread.fault, hf]
  have hub : u.fr.blocksize.toNat = s.blocksize := by rw [hread.fr]; rfl
  have hxu : ∀ i, u.x i = u.sample s.work.ch i := fun i => by rw [State.x, hkch]
  obtain ⟨t, ht, -, hframe, hrestored⟩ := restore_spec u c shift warmup p.values y huf (by rw [hkch]; exact hch)
    (by rw [hub, hread.capacity]; exact hcap) (by rw [hub]; exact hle) (by rw [hub]; exact hy)
    (fun i hi => by
      obtain ⟨-, hkeep⟩ := hres s.work.ch i hch
      rw [hxu, State.sample, hkeep (.inr (.inl hi)), ← hw i hi]
      rfl)
    (fun i hlo hhi => by
      obtain ⟨hval, -⟩ := hres s.work.ch i hch
      rw [hxu, hval rfl hlo (by rwa [hub] at hhi)])
  have htw : t.work = u.work := by rw [hframe]
  rw [hkch, hub] at hrestored
  refine ⟨t, ?_, (hread.trans (n := 0) ⟨by rw [hframe]; rfl⟩).cast (by simp),
    SameChannel.trans ⟨hkch, hkw, hkb⟩ (.of_work htw),
    (hres.overwrite hrestored (le_refl _)).congr fun i hlo _ => if_neg (by omega)⟩
  rw [hu, seq_live _ huf, hcoefs, hshift, ht]

/-- A FIXED body as written leaves the samples of its recurrence (R218, R219). -/
theorem fixedBody_spec {s : State} {order : Fin 5} {warmup : List Int} {residual : ResidualPlan} {y : Nat → Int}
    (hf : s.fault = false) (hch : s.work.ch ≤ 1) (hcap : s.blocksize ≤ s.capacity) (hb : s.work.bpsEff ≤ 64)
    (hp : (BodyPlan.fixed order warmup residual).produces s.work.bpsEff s.blocksize y)
    (h : carries s.stream s.bitpos ((BodyPlan.fixed order warmup residual).bits s.work.bpsEff)) :
    ∃ t, execFixedBody order s = .next t ∧
      Reads ((BodyPlan.fixed order warmup residual).bits s.work.bpsEff).length s t ∧ SameChannel s t ∧
      Writes s t s.work.ch 0 s.blocksize y := by
  obtain ⟨hle, hlen, hfit, hlegal, hy⟩ := hp
  have hc := length_fixedCoef order
  let s₁ := s.setWork { s.work with order := order.val }
  obtain ⟨u, hu, hread, hwork, hwarm⟩ := readSamples_fields warmup s₁ hf hch
    (by rw [hlen]; exact hle.trans hcap) hb hfit (carries_append.1 h).1
  have huf : u.fault = false := by rw [hread.fault]; exact hf
  have huch : u.work.ch = s.work.ch := by rw [hwork]; rfl
  have hub : u.blocksize = s.blocksize := by rw [State.blocksize, hread.fr]; rfl
  obtain ⟨t, ht, hread', hsame, hrest⟩ := residualRestored_spec (s := u) (c := fixedCoef order) (shift := 0)
    (warmup := warmup) (y := y) (coefs := fun _ => fixedCoef order) (shifts := fun _ => 0) residual huf
    (by rw [huch]; exact hch) (by rw [hub, hread.capacity]; exact hcap) (by rw [hwork, hc]; rfl)
    (by rw [hc, hub]; exact hle) (by rw [hc, hub]; exact hlegal) (by rw [hub]; exact hy)
    (fun i hi => by
      obtain ⟨hval, -⟩ := hwarm s.work.ch i hch
      rw [State.x, huch, hval rfl (Nat.zero_le _) (by omega)])
    (fun _ _ _ => ⟨rfl, rfl⟩) (hread.carries rfl h)
  obtain ⟨hy0, -⟩ := hy
  rw [huch, hub, hc] at hrest
  rw [hc] at ht
  refine ⟨t, ?_, ⟨?_⟩, ?_, ?_⟩
  · rw [execFixedBody, live_ok _ hf, checkOrder_ok hle, seq_live _ (by exact hf)]
    show seq (readSamples order.val s₁) _ = _
    rw [← hlen, hu, seq_live _ huf, hlen, ht]
  · rw [(hread.trans hread').frame, BodyPlan.bits, List.length_append]
    rfl
  · exact SameChannel.trans ⟨huch, by rw [hwork]; rfl, by rw [hwork]; rfl⟩ hsame
  · have hwarm' : Writes s u s.work.ch 0 order.val y :=
      ((hlen ▸ hwarm).of_same_cells (fun _ _ => rfl) fun _ _ => rfl).congr fun i _ hi => (hy0 i (by omega)).symm
    exact hwarm'.append hrest (Nat.zero_le _) hle

end Sys2Proof.Machine
end

section
/-! The LPC body as an encoder writes it: its parameters in the registers, its samples restored (R105, R220). -/

namespace Sys2Proof.Machine

/-! ## The coefficient file -/

/-- The first `n` coefficients of the file are those of the list. -/
def State.HoldsCoefs (s : State) (n : Nat) (coefs : List Int) : Prop :=
  ∀ j : Fin 32, j.val < n → s.coef[j].toInt = coefs.getD j 0

theorem holdsCoefs_setCoef {s : State} {j : Nat} {coefs : List Int} (hj : j < 32) (h : s.HoldsCoefs j coefs)
    (hfit : fitsSigned 16 (coefs.getD j 0) = true) :
    (s.setCoef j (coefs.getD j 0)).HoldsCoefs (j + 1) coefs := by
  intro k hlt
  rw [fitsSigned, if_neg (by omega), Bool.and_eq_true, decide_eq_true_eq, decide_eq_true_eq] at hfit
  obtain ⟨hlo, hhi⟩ := hfit
  simp only [State.setCoef_coef, Fin.getElem_fin, Vector.getElem_setIfInBounds]
  split
  · next hjk =>
    subst hjk
    exact BitVec.toInt_ofInt_eq_self (by omega) hlo (by omega)
  · exact h k (by omega)

theorem State.HoldsCoefs.coefs_eq {s : State} {coefs : List Int} (hlen : coefs.length ≤ 32)
    (h : s.HoldsCoefs coefs.length coefs) : s.coefs coefs.length = coefs := by
  refine List.ext_getElem (by simp [State.coefs, hlen]) fun j hj hj' => ?_
  have hval := h ⟨j, by omega⟩ hj'
  rw [List.getD_eq_getElem _ _ hj'] at hval
  simpa [State.coefs] using hval

/-! ## The parameters -/

theorem fitsSigned_mono {m n : Nat} {v : Int} (hm : 0 < m) (hmn : m ≤ n) (h : fitsSigned m v = true) :
    fitsSigned n v = true := by
  have hpow : (2 : Int) ^ (m - 1) ≤ 2 ^ (n - 1) := by exact_mod_cast Nat.pow_le_pow_right (by decide) (by omega)
  rw [fitsSigned, if_neg (by omega), Bool.and_eq_true, decide_eq_true_eq, decide_eq_true_eq] at h ⊢
  omega

/-- A shift that is not negative reads as itself and is kept as itself (R220). -/
theorem sext_shift (shift : BitVec 4) :
    sext 5 (shift.toNat % 2 ^ 5) = shift.toNat ∧ (BitVec.ofInt 5 (shift.toNat : Int)).toNat = shift.toNat := by
  revert shift
  decide

/-- The coefficients' fields fill the file from its first entry on. -/
theorem coefLoop_spec (coefs : List Int) (prec : Nat) (s : State) (hf : s.fault = false) (hlen : coefs.length ≤ 32)
    (hprec : s.lpcPrec.toNat = prec) (h0 : 0 < prec) (h16 : prec ≤ 16) (hx : ∀ c ∈ coefs, fitsSigned prec c = true)
    (h : carries s.stream s.bitpos (coefs.flatMap (signedBits prec))) :
    ∃ t, forRange coefs.length 0 (fun j s => withInt s.lpcPrec.toNat s fun v s => .next (s.setCoef j v)) s = .next t ∧
      t = { s with bitpos := s.bitpos + (coefs.flatMap (signedBits prec)).length, coef := t.coef } ∧
      t.HoldsCoefs coefs.length coefs := by
  have hbound := h.bound
  rw [length_flatMap_signedBits] at hbound ⊢
  obtain ⟨t, ht, -, hframe, hcoefs⟩ := forRange_total coefs.length 0 s
    (f := fun j s => withInt s.lpcPrec.toNat s fun v s => .next (s.setCoef j v))
    (I := fun i u => u = { s with bitpos := s.bitpos + i * prec, coef := u.coef } ∧ u.HoldsCoefs i coefs)
    (fun i u _ hi hul ⟨hu, hsofar⟩ => by
      rw [Nat.zero_add] at hi
      have hup : u.lpcPrec.toNat = prec := by rw [hu]; exact hprec
      have hus : u.stream = s.stream := by rw [hu]
      have hub : u.bitpos = s.bitpos + i * prec := by rw [hu]
      have hroom : (i + 1) * prec ≤ coefs.length * prec := Nat.mul_le_mul_right _ (by omega)
      have hsucc : (i + 1) * prec = i * prec + prec := Nat.succ_mul _ _
      have hmem : coefs.getD i 0 ∈ coefs := by
        rw [List.getD_eq_getElem _ _ hi]
        exact List.getElem_mem hi
      have hfield : sext prec (memRead u.stream u.bitpos prec) = coefs.getD i 0 := by
        rw [hus, hub]
        exact sext_field_of_carries coefs s.bitpos i hi hx h
      refine ⟨(u.setBitpos (u.bitpos + prec)).setCoef i (coefs.getD i 0), ?_, hul, ?_, ?_⟩
      · rw [hup, withInt_ok _ (by rw [State.bitLength, hus, hub]; omega), hfield]
      · rw [hub, hsucc, ← Nat.add_assoc, hu]
        rfl
      · exact holdsCoefs_setCoef (by omega) (by exact hsofar) (fitsSigned_mono h0 h16 (hx _ hmem)))
    hf ⟨by simp, fun _ hlt => by omega⟩
  rw [Nat.zero_add] at hframe hcoefs
  exact ⟨t, ht, hframe, hcoefs⟩

/-- The parameters as written stand in their registers (R220). -/
theorem readLpcParams_spec {coefs : List Int} {p shift : BitVec 4} {s : State} (hf : s.fault = false)
    (hlen : coefs.length ≤ 32) (hx : ∀ c ∈ coefs, fitsSigned (p.toNat + 1) c = true)
    (h : carries s.stream s.bitpos
      (bitsOf 4 p.toNat ++ (bitsOf 5 shift.toNat ++ coefs.flatMap (signedBits (p.toNat + 1))))) :
    ∃ t, readLpcParams coefs.length s = .next t ∧
      Decodes (9 + (coefs.flatMap (signedBits (p.toNat + 1))).length) s t ∧ t.work = s.work ∧
      (∀ c i, t.cell c i = s.cell c i) ∧
      t.lpcPrec.toNat = p.toNat + 1 ∧ t.lpcShift.toNat = shift.toNat ∧ t.HoldsCoefs coefs.length coefs := by
  obtain ⟨hprec, hrest⟩ := carries_append.1 h
  obtain ⟨hshift, hcoefs⟩ := carries_append.1 hrest
  rw [length_bitsOf] at hshift hcoefs
  rw [length_bitsOf] at hcoefs
  have hb₁ : s.bitpos + 4 ≤ s.bitLength := hprec.bound
  have hb₂ : s.bitpos + 4 + 5 ≤ s.bitLength := hshift.bound
  obtain ⟨hsext, hkept⟩ := sext_shift shift
  have hp : (BitVec.ofNat 5 (p.toNat + 1)).toNat = p.toNat + 1 := by
    rw [BitVec.toNat_ofNat, Nat.mod_eq_of_lt (by omega)]
  let s₁ := (((s.setBitpos (s.bitpos + 4)).setLpcPrec (p.toNat + 1)).setBitpos (s.bitpos + 4 + 5)).setLpcShift shift.toNat
  obtain ⟨t, ht, hframe, hholds⟩ := coefLoop_spec coefs (p.toNat + 1) s₁ hf hlen hp (by omega) (by omega) hx hcoefs
  refine ⟨t, ?_, ⟨?_⟩, by rw [hframe]; rfl, fun c i => by rw [hframe]; rfl, by rw [hframe]; exact hp,
    by rw [hframe]; exact hkept, hholds⟩
  · have hread : memRead s.stream s.bitpos 4 = p.toNat := by
      rw [memRead_of_carries hprec, Nat.mod_eq_of_lt (by omega)]
    have hread' : sext 5 (memRead s.stream (s.bitpos + 4) 5) = shift.toNat := by rw [memRead_of_carries hshift, hsext]
    rw [readLpcParams, withUint_ok _ hb₁, hread, withInt_ok _ (by exact hb₂)]
    simp only [State.setLpcPrec_stream, State.setLpcPrec_bitpos, State.setBitpos_stream, State.setBitpos_bitpos, hread']
    rw [if_neg (by omega)]
    exact ht
  · rw [hframe]
    simp only [s₁, ← Nat.add_assoc]
    rfl

/-! ## The body -/

/-- An LPC body as written leaves its parameters in the registers and the samples of its recurrence in the channel. -/
theorem lpcBody_spec {s : State} {m : BitVec 5} {warmup coefs : List Int} {p shift : BitVec 4} {residual : ResidualPlan}
    {y : Nat → Int} (hf : s.fault = false) (hch : s.work.ch ≤ 1) (hcap : s.blocksize ≤ s.capacity)
    (hb : s.work.bpsEff ≤ 64)
    (hp : (BodyPlan.lpc m warmup p shift coefs residual).produces s.work.bpsEff s.blocksize y)
    (h : carries s.stream s.bitpos ((BodyPlan.lpc m warmup p shift coefs residual).bits s.work.bpsEff)) :
    ∃ t, execLpcBody m s = .next t ∧
      Fills ((BodyPlan.lpc m warmup p shift coefs residual).bits s.work.bpsEff).length y s t ∧
      t.lpcPrec.toNat = p.toNat + 1 ∧ t.lpcShift.toNat = shift.toNat ∧ t.HoldsCoefs coefs.length coefs := by
  obtain ⟨hle, hlen, hfit, hclen, hcfit, hlegal, hy⟩ := hp
  simp only [BodyPlan.bits, List.append_assoc] at h
  have hm := m.isLt
  rw [← hclen] at hle hlen hlegal
  let s₁ := s.setWork { s.work with order := coefs.length }
  obtain ⟨u, hu, hread, hwork, hwarm⟩ := readSamples_fields warmup s₁ hf hch
    (by rw [hlen]; exact hle.trans hcap) hb hfit (carries_append.1 h).1
  rw [hlen] at hu hwarm
  have huf : u.fault = false := by rw [hread.fault]; exact hf
  have hparams := hread.carries rfl h
  rw [← List.append_assoc (bitsOf 5 _), ← List.append_assoc (bitsOf 4 _)] at hparams
  obtain ⟨v, hv, hvread, hvw, hvcell, hprec, hshift, hholds⟩ :=
    readLpcParams_spec huf (by omega) hcfit (carries_append.1 hparams).1
  have hthese := hread.decodes.trans hvread
  have hvf : v.fault = false := by rw [hvread.fault, huf]
  have hvch : v.work.ch = s.work.ch := by rw [hvw, hwork]; rfl
  have hvb : v.blocksize = s.blocksize := hthese.blocksize
  have hvcap : v.capacity = s.capacity := hthese.capacity
  obtain ⟨t, ht, hread', hsame, hrest⟩ := residualRestored_spec (s := v) (c := coefs) (shift := shift.toNat)
    (warmup := warmup) (y := y) (coefs := fun s => s.coefs coefs.length) (shifts := fun s => s.lpcShift.toNat) residual hvf
    (by rw [hvch]; exact hch) (by rw [hvb, hvcap]; exact hcap) (by rw [hvw, hwork]; rfl)
    (by rw [hvb]; exact hle) (by rw [hvb]; exact hlegal) (by rw [hvb]; exact hy)
    (fun i hi => by
      obtain ⟨hval, -⟩ := hwarm s.work.ch i hch
      rw [State.x, hvch, State.sample, hvcell]
      exact hval rfl (Nat.zero_le _) hi)
    (fun n w hw => by
      have hcoef : w.HoldsCoefs coefs.length coefs := by rw [hw.frame]; exact hholds
      exact ⟨hcoef.coefs_eq (by omega), by rw [hw.frame]; exact hshift⟩)
    (hvread.carries (by simp [← Nat.add_assoc]) hparams)
  obtain ⟨hy0, -⟩ := hy
  rw [hvch, hvb] at hrest
  refine ⟨t, ?_, ⟨?_, ?_, ?_⟩, ?_, ?_, ?_⟩
  · rw [execLpcBody, live_ok _ hf, ← hclen]
    show seq (checkOrder coefs.length s) _ = _
    rw [checkOrder_ok hle, seq_live _ (by exact hf)]
    show seq (readSamples coefs.length s₁) _ = _
    rw [hu, seq_live _ huf, hv, seq_live _ hvf, ht]
  · have hall : Decodes _ s t := ⟨(hthese.trans hread'.decodes).frame⟩
    exact hall.cast (by simp only [s₁, State.setWork_work, BodyPlan.bits, List.length_append, length_bitsOf]; omega)
  · exact SameChannel.trans ⟨hvch, by rw [hvw, hwork]; rfl, by rw [hvw, hwork]; rfl⟩ hsame
  · have hwarm' : Writes s v s.work.ch 0 coefs.length y :=
      (hwarm.of_same_cells (fun _ _ => rfl) hvcell).congr fun i _ hi => (hy0 i hi).symm
    exact hwarm'.append hrest (Nat.zero_le _) hle
  · rw [hread'.frame]
    exact hprec
  · rw [hread'.frame]
    exact hshift
  · rw [hread'.frame]
    exact hholds

end Sys2Proof.Machine
end

section
/-! A subframe as an encoder writes it: header, wasted bits, body (R210 to R215, R223). -/

namespace Sys2Proof.Machine

/-! ## The header -/

section
variable {s : State} {zero wasted : Bool} {type : Nat}

theorem subframeRow_plain (zero wasted : Bool) (type : Nat) (c : ElemCtx) (p : Nat) :
    (subframeRow zero type wasted).WellFormed ∧ (subframeRow zero type wasted).agrees c p := by
  unfold subframeRow
  split_ifs <;> exact ⟨rfl, trivial⟩

theorem execLeaf_subframeRow (ht : type < 2 ^ 6) (hr : subframeReserved type = false) :
    execLeaf (subframeRow zero type wasted) s = subframeHeader type wasted s := by
  simp only [subframeReserved, Bool.or_eq_false_iff, Bool.and_eq_false_iff, decide_eq_false_iff_not] at hr
  unfold subframeRow
  split_ifs
  on_goal 8 =>
    show subframeHeader (32 + (BitVec.ofNat 5 (type - 32)).toNat) wasted s = _
    rw [add_toNat_ofNat_sub (by omega) (by omega)]
  all_goals
    subst type
    rfl

/-- A subframe header of a legal type leaves its fields in the working registers (R212). -/
theorem runLeaf_subframeHdr (hf : s.fault = false) (ht : type < 2 ^ 6) (hr : subframeReserved type = false)
    (h : carries s.stream s.bitpos (zero :: bitsOf 6 type ++ [wasted])) :
    runLeaf .subframeHdr s = .next (s.readTo 8
      { s.work with type := type, wastedFlag := wasted, w := 0, order := predictorOrder type }) := by
  have hb : s.bitpos + 8 ≤ s.bitLength := by simpa [State.bitLength] using h.bound
  obtain ⟨hwf, ha⟩ := subframeRow_plain zero wasted type s.elemCtx s.bitpos
  rw [runLeaf_encoded hf hwf (kind_subframeRow zero type wasted) ha ((encode_subframeRow ht hr).symm ▸ h),
    execLeaf_subframeRow ht hr]
  exact element_readTo hf hb rfl

/-- The wasted-bits count, 0 if there is none (R213). -/
theorem wastedBits_spec {wasted : Option Nat} (hf : s.fault = false) (hflag : s.work.wastedFlag = wasted.isSome)
    (h0 : s.work.w = 0) (h : carries s.stream s.bitpos (wasted.elim [] unaryBits)) :
    wastedBits s =
      .next (s.readTo (wasted.elim [] unaryBits).length { s.work with w := wasted.getD 0 }) := by
  unfold wastedBits
  rw [hflag]
  cases wasted with
  | none =>
    have hsame : { s.work with w := 0 } = s.work := by rw [← h0]
    show Host.Outcome.next s = .next (s.readTo 0 { s.work with w := 0 })
    rw [hsame]
    rfl
  | some w =>
    have hb : s.bitpos + (w + 1) ≤ s.bitLength := length_unaryBits w ▸ h.bound
    show runLeaf .wastedUnary s = .next (s.readTo (unaryBits w).length { s.work with w := w })
    rw [runLeaf_encoded (i := .wastedUnary w) hf rfl rfl trivial h, length_unaryBits]
    exact element_readTo hf hb rfl

/-- The width of the body's fields (R211). -/
theorem effectiveWidth_ok {bps : Nat} (hbps : s.fr.bps.toNat + sideExtra s.fr.chAssign.toNat s.work.ch = bps)
    (hw : s.work.w < bps) (h64 : bps - s.work.w ≤ 64) :
    effectiveWidth s = .next (s.setWork { s.work with bpsEff := bps - s.work.w }) := by
  have hwidth : ((s.fr.bps.toNat : Int) + (sideExtra s.fr.chAssign.toNat s.work.ch : Int) - (s.work.w : Int)) =
      ((bps - s.work.w : Nat) : Int) := by omega
  unfold effectiveWidth
  rw [hwidth]
  exact if_neg (by simp; omega)

end

/-! ## The body -/

/-- The type codes of FIXED and LPC are legal (R116). -/
theorem predictor_types_legal :
    (∀ order : Fin 5, 8 + order.val < 2 ^ 6 ∧ subframeReserved (8 + order.val) = false) ∧
    ∀ m : BitVec 5, 32 + m.toNat < 2 ^ 6 ∧ subframeReserved (32 + m.toNat) = false := by decide

theorem BodyPlan.type_legal (p : BodyPlan) : p.type < 2 ^ 6 ∧ subframeReserved p.type = false := by
  obtain ⟨hfixed, hlpc⟩ := predictor_types_legal
  cases p with
  | constant v => exact ⟨Nat.zero_lt_succ _, rfl⟩
  | verbatim xs => exact ⟨Nat.one_lt_two_pow (by omega), rfl⟩
  | fixed order warmup residual => exact hfixed order
  | lpc m warmup q shift coefs residual => exact hlpc m

theorem Fills.congr {n : Nat} {x y : Nat → Int} {s t : State} (h : Fills n x s t)
    (hxy : ∀ i, i < s.blocksize → x i = y i) : Fills n y s t :=
  ⟨h.decodes, h.same, h.writes.congr fun i _ hi => hxy i hi⟩

/-- The body of the subframe's type as written leaves its samples in the channel (R215). -/
theorem subframeBody_fills (p : BodyPlan) {s : State} {x : Nat → Int} (hf : s.fault = false) (hch : s.work.ch ≤ 1)
    (hcap : s.blocksize ≤ s.capacity) (h1 : 1 ≤ s.work.bpsEff) (hb : s.work.bpsEff ≤ 64) (htype : s.work.type = p.type)
    (hp : p.produces s.work.bpsEff s.blocksize x) (h : carries s.stream s.bitpos (p.bits s.work.bpsEff)) :
    ∃ t, subframeBody s = .next t ∧ Fills (p.bits s.work.bpsEff).length x s t := by
  unfold subframeBody
  rw [htype]
  cases p with
  | constant v =>
    obtain ⟨hv, hx⟩ := hp
    obtain ⟨t, ht, hfills⟩ := constantBody_fills hf hch hcap h1 hb hv h
    refine ⟨t, ht, ?_⟩
    rw [BodyPlan.bits, length_signedBits]
    exact hfills.congr fun i hi => (hx i hi).symm
  | verbatim xs =>
    obtain ⟨hlen, hxs, hx⟩ := hp
    obtain ⟨t, ht, hfills⟩ := verbatimBody_fills xs hf hch hcap hb hlen hxs h
    exact ⟨t, ht, hfills.congr fun i hi => (hx i hi).symm⟩
  | fixed order warmup residual =>
    have ho := order.isLt
    obtain ⟨t, ht, hread, hsame, hwrites⟩ := fixedBody_spec hf hch hcap hb hp h
    refine ⟨t, ?_, .of_reads hread hsame hwrites⟩
    have horder : s.elemCtx.fixedOrder = order := by
      rw [State.elemCtx, htype, BodyPlan.type]
      ext
      simp only [Nat.add_sub_cancel_left, Fin.ofNat, Nat.mod_eq_of_lt ho]
    have ht₀ : (BodyPlan.fixed order warmup residual).type = 8 + order.val := rfl
    rw [if_neg (by omega), if_neg (by omega), if_pos (by omega), horder, ht]
  | lpc m warmup q shift coefs residual =>
    obtain ⟨t, ht, hfills, -⟩ := lpcBody_spec hf hch hcap hb hp h
    refine ⟨t, ?_, hfills⟩
    have horder : s.elemCtx.lpcOrderMinus1 = m := by
      rw [State.elemCtx, htype, BodyPlan.type]
      simp only [Nat.add_sub_cancel_left, BitVec.ofNat_toNat, BitVec.setWidth_eq]
    have ht₀ : (BodyPlan.lpc m warmup q shift coefs residual).type = 32 + m.toNat := rfl
    rw [if_neg (by omega), if_neg (by omega), if_neg (by omega), horder, ht]

/-! ## The subframe -/

/-- The wasted bits shifted back in, no product leaving 64 bits (R223). -/
theorem shiftWasted_spec {s : State} {y : Nat → Int} (hf : s.fault = false) (hch : s.work.ch ≤ 1)
    (hcap : s.blocksize ≤ s.capacity)
    (hy : ∀ i, i < s.blocksize → y i = s.x i * 2 ^ s.work.w ∧ inRange64 (y i) = true) :
    ∃ t, shiftWasted s = .next t ∧ t = { s with sb0 := t.sb0, sb1 := t.sb1 } ∧ Writes s t s.work.ch 0 s.blocksize y :=
  cellLoop_spec s hf fun i u hi hu hsofar => by
    obtain ⟨hyi, hrange⟩ := hy i hi
    obtain ⟨-, hkeep⟩ := hsofar s.work.ch i hch
    have huch : u.work.ch = s.work.ch := by rw [hu]
    have huw : u.work.w = s.work.w := by rw [hu]
    have hux : u.x i = s.x i := by rw [State.x, huch, State.sample, hkeep (.inr (.inr (le_refl _)))]; rfl
    rw [writeXI64, huch, huw, hux, shl, ← hyi]
    exact writeI64_spec (i := i) hch (by rw [hu]; exact hi.trans_le hcap) hrange

theorem SubframePlan.bits_eq (p : SubframePlan) (bps : Nat) :
    p.bits bps = (p.zero :: bitsOf 6 p.body.type ++ [p.wasted.isSome]) ++
      (p.wasted.elim [] unaryBits ++ p.body.bits (bps - p.w)) := by
  simp [SubframePlan.bits]

/-- A subframe as written leaves its samples in its channel (R210). -/
theorem decodeSubframe_spec {s : State} {ch bps : Nat} {y : Nat → Int} (p : SubframePlan) (hf : s.fault = false)
    (hch : ch ≤ 1) (hcap : s.blocksize ≤ s.capacity) (hbps : s.fr.bps.toNat + sideExtra s.fr.chAssign.toNat ch = bps)
    (hp : p.leaves bps s.blocksize y) (h : carries s.stream s.bitpos (p.bits bps)) :
    ∃ t, decodeSubframe ch s = .next t ∧ Decodes (p.bits bps).length s t ∧ Writes s t ch 0 s.blocksize y := by
  obtain ⟨hw, h64, x, hx, hy⟩ := hp
  obtain ⟨htype, hlegal⟩ := p.body.type_legal
  rw [SubframePlan.bits_eq] at h ⊢
  let s₀ := s.setWork { s.work with ch := ch }
  let s₁ := s₀.readTo 8
    { s₀.work with type := p.body.type, wastedFlag := p.wasted.isSome, w := 0, order := predictorOrder p.body.type }
  let s₂ := s₁.readTo (p.wasted.elim [] unaryBits).length { s₁.work with w := p.w }
  let s₃ := s₂.setWork { s₂.work with bpsEff := bps - p.w }
  have hhdr : runLeaf .subframeHdr s₀ = .next s₁ := runLeaf_subframeHdr hf htype hlegal (carries_append.1 h).1
  have hr₁ : Reads 8 s s₁ := ⟨rfl⟩
  have hc₁ := hr₁.carries (by simp) h
  have hwasted : wastedBits s₁ = .next s₂ := wastedBits_spec hf rfl rfl (carries_append.1 hc₁).1
  have hr₂ : Reads (p.wasted.elim [] unaryBits).length s₁ s₂ := ⟨rfl⟩
  have hwidth : effectiveWidth s₂ = .next s₃ := effectiveWidth_ok hbps hw h64
  have hr₃ : Reads 0 s₂ s₃ := reads_setWork _ _
  obtain ⟨u, hu, hread, hsame, hbody⟩ := subframeBody_fills p.body (s := s₃) hf hch hcap
    (show 1 ≤ bps - p.w by omega) h64 rfl hx (hr₂.carries rfl hc₁)
  obtain ⟨huch, huw, -⟩ := hsame
  have huf : u.fault = false := by rw [hread.fault]; exact hf
  have hub : u.blocksize = s.blocksize := hread.blocksize
  obtain ⟨t, ht, hframe, hshifted⟩ := shiftWasted_spec (s := u) (y := y) huf (by rw [huch]; exact hch)
    (by rw [hub, hread.capacity]; exact hcap) fun i hi => by
      rw [hub] at hi
      obtain ⟨hyi, hrange⟩ := hy i hi
      obtain ⟨hval, -⟩ := hbody ch i hch
      refine ⟨?_, hrange⟩
      rw [hyi, State.x, huch, huw]
      exact congrArg (· * 2 ^ p.w) (hval rfl (Nat.zero_le _) hi).symm
  have hlast : Decodes 0 u t := ⟨by rw [hframe]; rfl⟩
  rw [hub, huch] at hshifted
  refine ⟨t, ?_, ?_, ?_⟩
  · rw [decodeSubframe]
    show seq (runLeaf .subframeHdr s₀) _ = _
    rw [hhdr, seq_live _ (by exact hf), hwasted, seq_live _ (by exact hf), hwidth, seq_live _ (by exact hf), hu,
      seq_live _ huf, ht]
  · refine ((((hr₁.trans hr₂).trans hr₃).decodes.trans hread).trans hlast).cast ?_
    show 8 + (p.wasted.elim [] unaryBits).length + 0 + (p.body.bits (bps - p.w)).length + 0 = _
    simp only [List.length_append, List.length_cons, length_bitsOf, List.length_nil]
    omega
  · exact ((hbody.of_same_cells (fun _ _ => rfl) fun _ _ => rfl).overwrite hshifted (le_refl _)).congr
      fun i _ _ => if_neg (by omega)

end Sys2Proof.Machine
end

section
/-! The header of a frame as an encoder writes it, up to the frame registers (R95 to R99, R180, R193). -/

namespace Sys2Proof.Machine

/-! ## The elements behind the preamble -/

section
variable {s : State}

/-- A leaf that is one unsigned field, run at the field's bits. -/
theorem runLeaf_field {k : Kind} {n v : Nat} {mk : BitVec n → Instr} {f : Nat → State → Out} (hf : s.fault = false)
    (hv : v < 2 ^ n)
    (hmk : ∀ x, (mk x).WellFormed ∧ (mk x).kind? = some k ∧ (mk x).agrees s.elemCtx s.bitpos ∧
      encode (mk x) = bitsOf n x.toNat)
    (hexec : ∀ x, execLeaf (mk x) s = f x.toNat s) (h : carries s.stream s.bitpos (bitsOf n v)) :
    runLeaf k s = f v s := by
  obtain ⟨hwf, hk, ha, henc⟩ := hmk (BitVec.ofNat n v)
  have hvalue : (BitVec.ofNat n v).toNat = v := by rw [BitVec.toNat_ofNat, Nat.mod_eq_of_lt hv]
  rw [hvalue] at henc
  rw [runLeaf_encoded hf hwf hk ha (henc ▸ h), hexec, hvalue]

/-- A coded number of any length is read and discarded (R96). -/
theorem runLeaf_codedNumber {i : Instr} (hf : s.fault = false) (hk : i.kind? = some .codedNumber)
    (h : carries s.stream s.bitpos (encode i)) :
    runLeaf .codedNumber s = .next (s.readTo (encode i).length s.work) := by
  have hrow : i.WellFormed ∧ i.agrees s.elemCtx s.bitpos ∧ execLeaf i s = element (encode i).length s .next := by
    cases i <;> cases hk
    all_goals exact ⟨rfl, trivial, by simp only [encode, List.length_append, length_bitsOf]; rfl⟩
  obtain ⟨hwf, ha, hexec⟩ := hrow
  rw [runLeaf_encoded hf hwf hk ha h, hexec]
  exact element_readTo hf h.bound rfl

theorem runLeaf_crc8 {v : BitVec 8} (hf : s.fault = false) (h : carries s.stream s.bitpos (encode (.crc8 v))) :
    runLeaf .crc8 s = .next (s.readTo 8 s.work) := by
  rw [runLeaf_encoded (i := .crc8 v) hf rfl rfl trivial h]
  exact element_readTo hf h.bound rfl

theorem blocksizeExt_ok {n v : Nat} (hf : s.fault = false) (hb : s.bitpos + n ≤ s.bitLength) :
    blocksizeExt n v s = .next (s.readTo n { s.work with blocksize := v + 1 }) := element_readTo hf hb rfl

theorem rateExt_ok {n scale v : Nat} (hf : s.fault = false) (hb : s.bitpos + n ≤ s.bitLength) :
    rateExt n scale v s = .next (s.readTo n { s.work with rate := v * scale }) := element_readTo hf hb rfl

/-- The blocksize extension, if the code has one (R97). -/
theorem blocksizeExtension_spec {bs : BitVec 4} {ext : Nat} (hf : s.fault = false) (hbs : s.work.bsCode = bs)
    (hext : ext < 2 ^ blocksizeExtWidth bs.toNat)
    (h : carries s.stream s.bitpos (bitsOf (blocksizeExtWidth bs.toNat) ext)) :
    blocksizeExtension s = .next (s.readTo (blocksizeExtWidth bs.toNat)
      { s.work with blocksize := if bs = 6 ∨ bs = 7 then ext + 1 else s.work.blocksize }) := by
  have hb := h.bound
  rw [length_bitsOf] at hb
  unfold blocksizeExtension
  rw [hbs]
  by_cases h6 : bs = 6
  · subst h6
    exact (runLeaf_field (f := blocksizeExt 8) (mk := .blocksizeExt8) hf hext (fun _ => ⟨rfl, rfl, trivial, rfl⟩) (fun _ => rfl)
        h).trans (blocksizeExt_ok hf hb)
  · by_cases h7 : bs = 7
    · subst h7
      exact (runLeaf_field (f := blocksizeExt 16) (mk := .blocksizeExt16) hf hext (fun _ => ⟨rfl, rfl, trivial, rfl⟩) (fun _ => rfl)
          h).trans (blocksizeExt_ok hf hb)
    · have hwidth : blocksizeExtWidth bs.toNat = 0 := by
        have h6' : bs.toNat ≠ 6 := toNat_ne_of_ne h6
        have h7' : bs.toNat ≠ 7 := toNat_ne_of_ne h7
        rw [blocksizeExtWidth, if_neg h6', if_neg h7']
      rw [if_neg h6, if_neg h7, if_neg (not_or.2 ⟨h6, h7⟩), hwidth]
      rfl

/-- The rate in Hz that the extension of a code gives, `rate` for a code without one (R98, R188). -/
def extendedRate (sr : BitVec 4) (ext rate : Nat) : Nat :=
  if sr = 12 then ext * 1000 else if sr = 13 then ext * 1 else if sr = 14 then ext * 10 else rate

/-- The rate extension, if the code has one (R98). -/
theorem rateExtension_spec {sr : BitVec 4} {ext : Nat} (hf : s.fault = false) (hsr : s.work.srCode = sr)
    (hext : ext < 2 ^ rateExtWidth sr.toNat)
    (h : carries s.stream s.bitpos (bitsOf (rateExtWidth sr.toNat) ext)) :
    rateExtension s = .next (s.readTo (rateExtWidth sr.toNat)
      { s.work with rate := extendedRate sr ext s.work.rate }) := by
  have hb := h.bound
  rw [length_bitsOf] at hb
  unfold rateExtension extendedRate
  rw [hsr]
  by_cases h12 : sr = 12
  · subst h12
    exact (runLeaf_field (f := rateExt 8 1000) (mk := .rateExt8Khz) hf hext (fun _ => ⟨rfl, rfl, trivial, rfl⟩) (fun _ => rfl)
        h).trans (rateExt_ok hf hb)
  · by_cases h13 : sr = 13
    · subst h13
      exact (runLeaf_field (f := rateExt 16 1) (mk := .rateExt16Hz) hf hext (fun _ => ⟨rfl, rfl, trivial, rfl⟩) (fun _ => rfl)
          h).trans (rateExt_ok hf hb)
    · by_cases h14 : sr = 14
      · subst h14
        exact (runLeaf_field (f := rateExt 16 10) (mk := .rateExt16Dhz) hf hext (fun _ => ⟨rfl, rfl, trivial, rfl⟩) (fun _ => rfl)
            h).trans (rateExt_ok hf hb)
      · have hwidth : rateExtWidth sr.toNat = 0 := by
          have h12' : sr.toNat ≠ 12 := toNat_ne_of_ne h12
          have h13' : sr.toNat ≠ 13 := toNat_ne_of_ne h13
          have h14' : sr.toNat ≠ 14 := toNat_ne_of_ne h14
          rw [rateExtWidth, if_neg h12', if_neg (not_or.2 ⟨h13', h14'⟩)]
        simp only [if_neg h12, if_neg h13, if_neg h14, hwidth]
        rfl

end

/-! ## The table's values -/

theorem tableBlocksize_plain {c : Nat} (h6 : c ≠ 6) (h7 : c ≠ 7) (ext : Nat) :
    tableBlocksize c ext = tableBlocksize c 0 := by
  rcases (by omega : c ≤ 5 ∨ 8 ≤ c) with hlo | hhi
  · interval_cases c <;> rfl
  · obtain ⟨c, rfl⟩ := Nat.exists_eq_add_of_le' hhi
    rfl

theorem tableBlocksize_extended (bs : BitVec 4) (ext : Nat) :
    tableBlocksize bs.toNat ext = if bs = 6 ∨ bs = 7 then ext + 1 else tableBlocksize bs.toNat 0 := by
  split
  · next h => rcases h with rfl | rfl <;> rfl
  · next h =>
    obtain ⟨h6, h7⟩ := not_or.1 h
    exact tableBlocksize_plain (toNat_ne_of_ne h6) (toNat_ne_of_ne h7) ext

theorem tableRate_plain {c : Nat} (h : c ≤ 11 ∨ 15 ≤ c) (siRate ext : Nat) :
    tableRate c siRate ext = tableRate c siRate 0 := by
  rcases h with hlo | hhi
  · interval_cases c <;> simp [tableRate]
  · obtain ⟨c, rfl⟩ := Nat.exists_eq_add_of_le' hhi
    simp [tableRate]

theorem tableRate_extended (sr : BitVec 4) (siRate ext : Nat) :
    tableRate sr.toNat siRate ext = extendedRate sr ext (tableRate sr.toNat siRate 0) := by
  unfold extendedRate
  split_ifs with h12 h13 h14
  · rw [h12]; rfl
  · rw [h13, Nat.mul_one]; rfl
  · rw [h14]; rfl
  · have h12' : sr.toNat ≠ 12 := toNat_ne_of_ne h12
    have h13' : sr.toNat ≠ 13 := toNat_ne_of_ne h13
    have h14' : sr.toNat ≠ 14 := toNat_ne_of_ne h14
    exact tableRate_plain (by omega) _ _

end Sys2Proof.Machine
end

section
/-! A frame's header as a whole: its elements in a row, and the frame registers they leave (R180, R193). -/

namespace Sys2Proof.Machine

/-- The bits of a frame's header. -/
def FramePlan.headerBits (p : FramePlan) : List Bool :=
  encode (.framePreamble p.strategy p.bs p.sr p.ca p.ss) ++ (encode p.number ++
    (bitsOf (blocksizeExtWidth p.bs.toNat) p.blocksizeExt ++ (bitsOf (rateExtWidth p.sr.toNat) p.rateExt ++
      encode (.crc8 p.crc8))))

/-- The bits of a frame's subframes, their sample size given. -/
def FramePlan.bodyBits (p : FramePlan) (bps : Nat) : List Bool :=
  p.sub0.bits (bps + sideExtra p.ca.toNat 0) ++ p.sub1.elim [] (SubframePlan.bits (bps + sideExtra p.ca.toNat 1))

theorem FramePlan.bits_eq (p : FramePlan) (siBps : Nat) : p.bits siBps = p.headerBits ++ p.bodyBits (p.bps siBps) := by
  simp only [FramePlan.bits, FramePlan.headerBits, FramePlan.bodyBits, List.append_assoc]

/-- The frame registers of a plan, `si` being what its codes 0 read (R193). -/
def FramePlan.registers (p : FramePlan) (si : StreamInfo) : FrameRegs where
  blocksize := BitVec.ofNat 17 p.blocksize
  rate := BitVec.ofNat 20 (tableRate p.sr.toNat si.rate.toNat p.rateExt)
  chAssign := p.ca
  nch := BitVec.ofNat 2 (if p.ca = 0 then 1 else 2)
  bps := BitVec.ofNat 6 (p.bps si.bps.toNat)

/-- The working values behind a plan's header are those its frame registers take. -/
structure FramePlan.Parsed (p : FramePlan) (si : StreamInfo) (w : Work) : Prop where
  blocksize : w.blocksize = p.blocksize
  rate : w.rate = tableRate p.sr.toNat si.rate.toNat p.rateExt
  caCode : w.caCode = p.ca
  nch : w.nch = if p.ca = 0 then 1 else 2
  bps : w.bps = p.bps si.bps.toNat

section
variable {s : State} {p : FramePlan} {si : StreamInfo}

theorem writeFrameRegs_parsed (h : p.Parsed si s.work) (hcap : p.blocksize ≤ s.capacity) :
    writeFrameRegs s = .next (s.setFrameRegs (p.registers si)) := by
  obtain ⟨hbs, hrate, hca, hnch, hbps⟩ := h
  unfold writeFrameRegs
  rw [hbs, if_neg hcap.not_gt, hrate, hca, hnch, hbps]
  rfl

/-- The rate that an extension replaces is not the preamble's. -/
theorem extendedRate_preamble (sr : BitVec 4) (ext old rate : Nat) :
    extendedRate sr ext (if sr.toNat ∈ [12, 13, 14] then old else rate) = extendedRate sr ext rate := by
  unfold extendedRate
  split_ifs with h12 h13 h14 hmem
  on_goal 4 =>
    have hcodes : ∀ sr : BitVec 4, sr ≠ 12 → sr ≠ 13 → sr ≠ 14 → sr.toNat ∉ [12, 13, 14] := by decide
    exact absurd hmem (hcodes sr h12 h13 h14)
  all_goals rfl

/-- The header of a legal plan leaves the plan's values in the working registers. -/
theorem headerFields_spec (hf : s.fault = false) (hp : p.legal s.capacity)
    (h : carries s.stream s.bitpos p.headerBits) :
    ∃ (si : StreamInfo) (d : Nat) (w : Work), (s.siValid = true → si = s.si) ∧ p.Parsed si w ∧
      headerFields s = .next { s with bitpos := s.bitpos + p.headerBits.length, draw := d, work := w } := by
  obtain ⟨hbs, hsr, hca, hss, hnumber, hbext, hrext, -, -⟩ := hp
  obtain ⟨hpre, hrest⟩ := carries_append.1 h
  have h32 : (encode (.framePreamble p.strategy p.bs p.sr p.ca p.ss)).length = 32 := rfl
  obtain ⟨si, d, hsi, -, hrun⟩ := framePreamble_legal (strategy := p.strategy) (ss := p.ss) hf (h32 ▸ hpre.bound)
    (ne_of_apply_ne BitVec.toNat hbs) (ne_of_apply_ne BitVec.toNat hsr) hca (ne_of_apply_ne BitVec.toNat hss)
  let u₁ : State := { s with
    bitpos := s.bitpos + 32, draw := d, work := preambleWork s.work p.bs p.sr p.ca p.ss si }
  let u₂ := u₁.readTo (encode p.number).length u₁.work
  let u₃ := u₂.readTo (blocksizeExtWidth p.bs.toNat)
    { u₂.work with blocksize := if p.bs = 6 ∨ p.bs = 7 then p.blocksizeExt + 1 else u₂.work.blocksize }
  let u₄ := u₃.readTo (rateExtWidth p.sr.toNat) { u₃.work with rate := extendedRate p.sr p.rateExt u₃.work.rate }
  let u₅ := u₄.readTo 8 u₄.work
  have hr₂ : Reads _ u₁ u₂ := reads_readTo _ _ _
  have hr₃ : Reads _ u₂ u₃ := reads_readTo _ _ _
  have hr₄ : Reads _ u₃ u₄ := reads_readTo _ _ _
  have hc₂ := hr₂.carries rfl hrest
  have hc₃ := hr₃.carries (length_bitsOf _ _) hc₂
  have hc₄ := hr₄.carries (length_bitsOf _ _) hc₃
  have h₁ : runLeaf .framePreamble s = .next u₁ := by
    rw [runLeaf_encoded (i := .framePreamble p.strategy p.bs p.sr p.ca p.ss) hf rfl rfl trivial hpre]
    exact hrun
  have h₂ : runLeaf .codedNumber u₁ = .next u₂ := runLeaf_codedNumber hf hnumber (carries_append.1 hrest).1
  have h₃ : blocksizeExtension u₂ = .next u₃ := blocksizeExtension_spec hf rfl hbext (carries_append.1 hc₂).1
  have h₄ : rateExtension u₃ = .next u₄ := rateExtension_spec hf rfl hrext (carries_append.1 hc₃).1
  have h₅ : runLeaf .crc8 u₄ = .next u₅ := runLeaf_crc8 hf hc₄
  refine ⟨si, d, u₅.work, hsi, ⟨?_, ?_, rfl, rfl, rfl⟩, ?_⟩
  · rw [FramePlan.blocksize, tableBlocksize_extended]
    show (if _ then _ else if _ then _ else _) = _
    split_ifs <;> rfl
  · rw [tableRate_extended]
    exact extendedRate_preamble _ _ _ _
  · rw [headerFields, h₁, seq_live _ (by exact hf), h₂, seq_live _ (by exact hf), h₃, seq_live _ (by exact hf), h₄,
      seq_live _ (by exact hf), h₅]
    simp only [FramePlan.headerBits, List.length_append, length_bitsOf, h32, ← Nat.add_assoc]
    rfl

end

/-! ## The registers hold the plan's values -/

theorem tableBps_lt (ss : BitVec 3) (siBps : BitVec 6) : tableBps ss.toNat siBps.toNat < 2 ^ 6 := by
  have hbound : ∀ c, c < 8 → tableBps c siBps.toNat < 2 ^ 6 := by
    intro c hc
    have := siBps.isLt
    interval_cases c <;> simp only [tableBps, List.getD_cons_zero, List.getD_cons_succ] <;> omega
  exact hbound _ ss.isLt

theorem extendedRate_lt {sr : BitVec 4} {ext rate : Nat} (hext : ext < 2 ^ rateExtWidth sr.toNat) (hr : rate < 2 ^ 20) :
    extendedRate sr ext rate < 2 ^ 20 := by
  unfold extendedRate
  split_ifs with h12 h13 h14
  · have : ext < 2 ^ 8 := by rw [h12] at hext; exact hext
    omega
  · have : ext < 2 ^ 16 := by rw [h13] at hext; exact hext
    omega
  · have : ext < 2 ^ 16 := by rw [h14] at hext; exact hext
    omega
  · exact hr

theorem tableRate_lt (sr : BitVec 4) (siRate : BitVec 20) : tableRate sr.toNat siRate.toNat 0 < 2 ^ 20 := by
  by_cases h0 : sr = 0
  · subst h0
    exact siRate.isLt
  · have hbound : ∀ sr : BitVec 4, tableRate sr.toNat 0 0 < 2 ^ 20 := by decide
    rw [tableRate_of_ne_zero (toNat_ne_of_ne h0)]
    exact hbound sr

theorem tableBlocksize_le {bs : BitVec 4} {ext : Nat} (hext : ext < 2 ^ blocksizeExtWidth bs.toNat) :
    tableBlocksize bs.toNat ext ≤ 65536 := by
  rw [tableBlocksize_extended]
  split
  · next h =>
    rcases h with rfl | rfl
    · have : ext < 2 ^ 8 := hext
      omega
    · have : ext < 2 ^ 16 := hext
      omega
  · have hbound : ∀ bs : BitVec 4, tableBlocksize bs.toNat 0 ≤ 65536 := by decide
    exact hbound bs

section
variable {p : FramePlan} {n : Nat}

theorem FramePlan.registers_blocksize (hp : p.legal n) (si : StreamInfo) :
    (p.registers si).blocksize.toNat = p.blocksize := by
  obtain ⟨-, -, -, -, -, hext, -⟩ := hp
  have hle : p.blocksize ≤ 65536 := tableBlocksize_le hext
  exact (BitVec.toNat_ofNat _ _).trans (Nat.mod_eq_of_lt (by omega))

theorem FramePlan.registers_rate (hp : p.legal n) (si : StreamInfo) :
    (p.registers si).rate.toNat = tableRate p.sr.toNat si.rate.toNat p.rateExt := by
  obtain ⟨-, -, -, -, -, -, hext, -⟩ := hp
  refine (BitVec.toNat_ofNat _ _).trans (Nat.mod_eq_of_lt ?_)
  rw [tableRate_extended]
  exact extendedRate_lt hext (tableRate_lt p.sr si.rate)

theorem FramePlan.registers_bps (p : FramePlan) (si : StreamInfo) : (p.registers si).bps.toNat = p.bps si.bps.toNat :=
  (BitVec.toNat_ofNat _ _).trans (Nat.mod_eq_of_lt (tableBps_lt p.ss si.bps))

theorem FramePlan.registers_nch (hp : p.legal n) (si : StreamInfo) :
    (p.registers si).nch.toNat = if p.sub1 = none then 1 else 2 := by
  obtain ⟨-, -, -, -, -, -, -, -, hsub⟩ := hp
  have hca : p.sub1 = none ↔ p.ca = 0 := hsub.trans (BitVec.toNat_inj (y := 0))
  rw [FramePlan.registers]
  simp only [hca]
  split <;> rfl

end

end Sys2Proof.Machine
end

section
/-! A frame as an encoder writes it: its subframes, the decorrelation, its end, and the command around it (R158, R159, R270
to R276). -/

namespace Sys2Proof.Machine

/-! ## Decorrelation -/

/-- From `s` to `t` the pair of cells `i` was written, and nothing else. -/
structure StoresPair (i : Nat) (ab : Int × Int) (s t : State) : Prop where
  frame : t = { s with sb0 := t.sb0, sb1 := t.sb1 }
  left : t.sample 0 i = ab.1
  right : t.sample 1 i = ab.2
  others : ∀ c j, c ≤ 1 → j ≠ i → t.cell c j = s.cell c j

section
variable {s : State} {i : Nat}

/-- The pair that a decorrelation makes of the cells `i`. -/
def State.decorrelatedAt (s : State) (ca i : Nat) : Int × Int := decorrelated ca (s.sample 0 i) (s.sample 1 i)

theorem leftSideAt_pair (hi : i < s.capacity) (h : inRange64 (s.decorrelatedAt 8 i).2 = true) :
    ∃ t, leftSideAt i s = .next t ∧ StoresPair i (s.decorrelatedAt 8 i) s t := by
  obtain ⟨t, ht, hframe, hwrites⟩ := writeI64_spec (c := 1) (s := s) (le_refl 1) hi h
  obtain ⟨-, hkeep⟩ := hwrites 0 i (Nat.zero_le _)
  obtain ⟨hval, -⟩ := hwrites 1 i (le_refl 1)
  exact ⟨t, ht, hframe, congrArg BitVec.toInt (hkeep (.inl (by decide))), hval rfl (le_refl _) (Nat.lt_succ_self _),
    fun c j hc hj => (hwrites c j hc).2 (by omega)⟩

theorem sideRightAt_pair (hi : i < s.capacity) (h : inRange64 (s.decorrelatedAt 9 i).1 = true) :
    ∃ t, sideRightAt i s = .next t ∧ StoresPair i (s.decorrelatedAt 9 i) s t := by
  obtain ⟨t, ht, hframe, hwrites⟩ := writeI64_spec (c := 0) (s := s) (Nat.zero_le 1) hi h
  obtain ⟨-, hkeep⟩ := hwrites 1 i (le_refl 1)
  obtain ⟨hval, -⟩ := hwrites 0 i (Nat.zero_le _)
  exact ⟨t, ht, hframe, hval rfl (le_refl _) (Nat.lt_succ_self _), congrArg BitVec.toInt (hkeep (.inl (by decide))),
    fun c j hc hj => (hwrites c j hc).2 (by omega)⟩

theorem midSideAt_pair (hf : s.fault = false) (hi : i < s.capacity) (h₀ : inRange64 (s.decorrelatedAt 10 i).1 = true)
    (h₁ : inRange64 (s.decorrelatedAt 10 i).2 = true) :
    ∃ t, midSideAt i s = .next t ∧ StoresPair i (s.decorrelatedAt 10 i) s t := by
  obtain ⟨u, hu, huframe, hright⟩ := writeSample_spec (c := 1) (s := s) (le_refl 1) hi h₁
  have huf : u.fault = false := by rw [huframe]; exact hf
  obtain ⟨t, ht, hframe, hleft⟩ := writeI64_spec (c := 0) (s := u) (Nat.zero_le 1) (by rw [huframe]; exact hi) h₀
  obtain ⟨hval₁, -⟩ := hright 1 i (le_refl 1)
  obtain ⟨-, hkeep₁⟩ := hleft 1 i (le_refl 1)
  obtain ⟨hval₀, -⟩ := hleft 0 i (Nat.zero_le _)
  refine ⟨t, ?_, by rw [hframe, huframe], hval₀ rfl (le_refl _) (Nat.lt_succ_self _), ?_, fun c j hc hj => ?_⟩
  · have hside : s.sample 0 i - asr (s.sample 1 i) 1 = (s.decorrelatedAt 10 i).2 := rfl
    have hmid : (s.decorrelatedAt 10 i).2 + s.sample 1 i = (s.decorrelatedAt 10 i).1 := rfl
    simp only [midSideAt, hside, i64_of_inRange h₁]
    rw [hu, seq_live _ huf, hmid, ht]
  · rw [State.sample, hkeep₁ (.inl (by decide))]
    exact hval₁ rfl (le_refl _) (Nat.lt_succ_self _)
  · rw [(hleft c j hc).2 (by omega), (hright c j hc).2 (by omega)]

/-- A loop whose round `i` decorrelates the cells `i`. -/
theorem decorrelateLoop_spec {f : Nat → State → Out} {ca n : Nat} (s : State) (hf : s.fault = false)
    (hcap : n ≤ s.capacity)
    (hstep : ∀ i u, u.fault = false → i < u.capacity → inRange64 (u.decorrelatedAt ca i).1 = true →
      inRange64 (u.decorrelatedAt ca i).2 = true → ∃ t, f i u = .next t ∧ StoresPair i (u.decorrelatedAt ca i) u t)
    (hrange : ∀ i, i < n → inRange64 (s.decorrelatedAt ca i).1 = true ∧ inRange64 (s.decorrelatedAt ca i).2 = true) :
    ∃ t, forRange n 0 f s = .next t ∧ t = { s with sb0 := t.sb0, sb1 := t.sb1 } ∧
      ∀ i, i < n → (t.sample 0 i, t.sample 1 i) = s.decorrelatedAt ca i := by
  obtain ⟨t, ht, -, hframe, hdone, -⟩ := forRange_total (f := f) n 0 s
    (I := fun k u => u = { s with sb0 := u.sb0, sb1 := u.sb1 } ∧
      (∀ i, i < k → (u.sample 0 i, u.sample 1 i) = s.decorrelatedAt ca i) ∧
      ∀ c i, c ≤ 1 → k ≤ i → u.cell c i = s.cell c i)
    (fun k u _ hk hul ⟨hu, hdone, hrest⟩ => by
      rw [Nat.zero_add] at hk
      have hsame : u.decorrelatedAt ca k = s.decorrelatedAt ca k := by
        simp only [State.decorrelatedAt, State.sample, hrest 0 k (by decide) (le_refl _),
          hrest 1 k (le_refl _) (le_refl _)]
      obtain ⟨h₀, h₁⟩ := hrange k hk
      obtain ⟨t, ht, hframe, hleft, hright, hothers⟩ := hstep k u hul (by rw [hu]; exact hk.trans_le hcap)
        (hsame ▸ h₀) (hsame ▸ h₁)
      refine ⟨t, ht, by rw [hframe]; exact hul, by rw [hframe, hu], fun i hi => ?_, fun c i hc hi => ?_⟩
      · rcases Nat.lt_succ_iff_lt_or_eq.1 hi with hlt | rfl
        · rw [← hdone i hlt, State.sample, State.sample, hothers 0 i (by decide) (by omega),
            hothers 1 i (le_refl _) (by omega)]
          rfl
        · rw [hleft, hright, hsame]
      · rw [hothers c i hc (by omega), hrest c i hc (by omega)])
    hf ⟨rfl, fun _ hi => by omega, fun _ _ _ _ => rfl⟩
  rw [Nat.zero_add] at hdone
  exact ⟨t, ht, hframe, hdone⟩

/-- The decorrelation makes the channels' samples of the subframes' (R270 to R274). -/
theorem decorrelate_spec {ca : Nat} (hf : s.fault = false) (hca : s.fr.chAssign.toNat = ca) (hmem : ca ∈ [0, 1, 8, 9, 10])
    (hcap : s.blocksize ≤ s.capacity)
    (hrange : ca ≠ 0 → ∀ i, i < s.blocksize →
      inRange64 (s.decorrelatedAt ca i).1 = true ∧ inRange64 (s.decorrelatedAt ca i).2 = true) :
    ∃ t, decorrelate s = .next t ∧ t = { s with sb0 := t.sb0, sb1 := t.sb1 } ∧
      ∀ i, i < s.blocksize → (t.sample 0 i, t.sample 1 i) = s.decorrelatedAt ca i := by
  unfold decorrelate
  rw [hca]
  simp only [List.mem_cons, List.not_mem_nil, or_false] at hmem
  rcases hmem with rfl | rfl | rfl | rfl | rfl
  · exact ⟨s, rfl, rfl, fun _ _ => rfl⟩
  · exact ⟨s, rfl, rfl, fun _ _ => rfl⟩
  · exact decorrelateLoop_spec s hf hcap (fun i u _ hi _ h => leftSideAt_pair hi h) (hrange (by decide))
  · exact decorrelateLoop_spec s hf hcap (fun i u _ hi h _ => sideRightAt_pair hi h) (hrange (by decide))
  · exact decorrelateLoop_spec s hf hcap (fun i u huf hi h₀ h₁ => midSideAt_pair huf hi h₀ h₁) (hrange (by decide))

/-! ## The end of a frame -/

/-- Padding of any content and a CRC-16 of any value are read (R275). -/
theorem frameEnd_spec {pad : List Bool} {crc : BitVec 16} (hf : s.fault = false) (hlen : pad.length = padWidth s.bitpos)
    (h : carries s.stream s.bitpos (pad ++ encode (.crc16 crc))) :
    frameEnd s = .next (s.setBitpos (s.bitpos + pad.length + 16)) := by
  obtain ⟨hpad, hcrc⟩ := carries_append.1 h
  have hb : s.src.has (padWidth s.bitpos) = true := BitSrc.has_iff.2 (hlen ▸ hpad.bound)
  have halign : runLeaf .padding s = .next (s.setBitpos (s.bitpos + pad.length)) := by
    have hd : s.decodeAt .padding = .ok (.padding (padWidth s.bitpos) (s.src.field 0 (padWidth s.bitpos))) := if_pos hb
    rw [runLeaf, live_ok _ hf, hd, hlen]
    exact live_ok (fun s => .next s.align) hf
  have hf' : (s.setBitpos (s.bitpos + pad.length)).fault = false := hf
  rw [frameEnd, halign, seq_live _ hf', runLeaf_encoded (i := .crc16 crc) hf' rfl rfl trivial hcrc]
  exact element_next hf' hcrc.bound rfl

end

/-! ## The frame -/

/-- The subframes as written leave their samples in their channels (R159). -/
theorem subframes_spec {s : State} {p : FramePlan} {bps n : Nat} {y0 y1 : Nat → Int} (hf : s.fault = false)
    (hcap : s.blocksize ≤ s.capacity) (hbps : s.fr.bps.toNat = bps) (hca : s.fr.chAssign = p.ca)
    (hn : n = if p.sub1 = none then 1 else 2) (h0 : p.sub0.leaves (bps + sideExtra p.ca.toNat 0) s.blocksize y0)
    (h1 : ∀ q, p.sub1 = some q → q.leaves (bps + sideExtra p.ca.toNat 1) s.blocksize y1)
    (h : carries s.stream s.bitpos (p.bodyBits bps)) :
    ∃ t, forRange n 0 decodeSubframe s = .next t ∧ Decodes (p.bodyBits bps).length s t ∧
      (∀ i, i < s.blocksize → t.sample 0 i = y0 i) ∧
      (p.sub1 ≠ none → ∀ i, i < s.blocksize → t.sample 1 i = y1 i) := by
  obtain ⟨u, hu, hread, hwrites⟩ := decodeSubframe_spec p.sub0 hf (Nat.zero_le 1) hcap (by rw [hbps, hca]) h0
    (carries_append.1 h).1
  have huf : u.fault = false := by rw [hread.fault, hf]
  have hleft : ∀ i, i < s.blocksize → u.sample 0 i = y0 i := fun i hi =>
    (hwrites 0 i (Nat.zero_le 1)).1 rfl (Nat.zero_le _) hi
  unfold FramePlan.bodyBits at h ⊢
  rw [List.length_append]
  cases hsub : p.sub1 with
  | none =>
    rw [hsub, if_pos rfl] at hn
    subst hn
    exact ⟨u, by rw [forRange_succ, hu, seq_live _ huf, forRange_zero], hread, hleft, fun h => absurd rfl h⟩
  | some q =>
    rw [hsub, if_neg (by simp)] at hn
    subst hn
    rw [hsub] at h
    have hub : u.blocksize = s.blocksize := hread.blocksize
    obtain ⟨t, ht, hread', hwrites'⟩ := decodeSubframe_spec (ch := 1) (y := y1) q huf (le_refl 1)
      (by rw [hub, hread.capacity]; exact hcap) (by rw [hread.fr, hbps, hca]) (hub.symm ▸ h1 q hsub)
      (hread.carries rfl h)
    have htf : t.fault = false := by rw [hread'.fault, huf]
    rw [hub] at hwrites'
    refine ⟨t, by rw [forRange_succ, hu, seq_live _ huf, forRange_succ, ht, seq_live _ htf, forRange_zero],
      hread.trans hread', fun i hi => ?_, fun _ i hi => (hwrites' 1 i (le_refl 1)).1 rfl (Nat.zero_le _) hi⟩
    rw [State.sample, (hwrites' 0 i (Nat.zero_le 1)).2 (.inl (by decide))]
    exact hleft i hi

/-- The samples that the decorrelation is to make lie in 64 bits, and are those of the plan (R276). -/
theorem FramePlan.decorrelated_samples {s : State} {p : FramePlan} {n : Nat} {y0 y1 out0 out1 : Nat → Int}
    (hout : ∀ i, i < n →
      out0 i = (decorrelated p.ca.toNat (y0 i) (y1 i)).1 ∧ out1 i = (decorrelated p.ca.toNat (y0 i) (y1 i)).2 ∧
      (p.sub1 ≠ none → inRange64 (out0 i) = true ∧ inRange64 (out1 i) = true))
    (hsub : p.sub1 = none → p.ca.toNat = 0) (h0 : ∀ i, i < n → s.sample 0 i = y0 i)
    (h1 : p.sub1 ≠ none → ∀ i, i < n → s.sample 1 i = y1 i) (i : Nat) (hi : i < n) :
    (s.decorrelatedAt p.ca.toNat i).1 = out0 i ∧ (p.sub1 ≠ none → (s.decorrelatedAt p.ca.toNat i).2 = out1 i) := by
  obtain ⟨hleft, hright, -⟩ := hout i hi
  rw [State.decorrelatedAt, h0 i hi]
  by_cases hs : p.sub1 = none
  · refine ⟨?_, fun h => absurd hs h⟩
    rw [hleft, hsub hs]
    rfl
  · rw [h1 hs i hi, hleft, hright]
    exact ⟨rfl, fun _ => rfl⟩

/-- What follows the header as written leaves the plan's samples (R159). -/
theorem frameBody_spec {s : State} {p : FramePlan} {pad : List Bool} {siBps : Nat} {out0 out1 : Nat → Int}
    (hf : s.fault = false) (hp : p.legal s.capacity) (hblock : s.blocksize = p.blocksize)
    (hbps : s.fr.bps.toNat = p.bps siBps) (hca : s.fr.chAssign = p.ca)
    (hnch : s.fr.nch.toNat = if p.sub1 = none then 1 else 2) (hout : p.produces siBps out0 out1)
    (hpad : pad.length = padWidth (s.bitpos + (p.bodyBits (p.bps siBps)).length))
    (h : carries s.stream s.bitpos (p.bodyBits (p.bps siBps) ++ (pad ++ encode (.crc16 p.crc16)))) :
    ∃ t, frameBody s = .next t ∧ t.fault = false ∧ t.decState = s.decState ∧ t.fr = s.fr ∧
      t.bitpos = s.bitpos + (p.bodyBits (p.bps siBps)).length + pad.length + 16 ∧
      (∀ i, i < p.blocksize → t.sample 0 i = out0 i) ∧
      (p.sub1 ≠ none → ∀ i, i < p.blocksize → t.sample 1 i = out1 i) := by
  obtain ⟨-, -, hmem, -, -, -, -, hcap, hsub⟩ := hp
  obtain ⟨y0, y1, hy0, hy1, hsamples⟩ := hout
  rw [← hblock] at hcap hy0 hy1 hsamples ⊢
  obtain ⟨u, hu, hread, hu0, hu1⟩ := subframes_spec (s := s.clearSamples) hf hcap hbps hca hnch hy0 hy1
    (carries_append.1 h).1
  have huf : u.fault = false := by rw [hread.fault]; exact hf
  have hub : u.blocksize = s.blocksize := hread.blocksize
  have hdec := FramePlan.decorrelated_samples hsamples hsub.1 hu0 hu1
  have hchan : u.fr.chAssign.toNat = p.ca.toNat := congrArg BitVec.toNat ((congrArg _ hread.fr).trans hca)
  obtain ⟨v, hv, hvframe, hvs⟩ := decorrelate_spec (s := u) huf hchan hmem (by rw [hub, hread.capacity]; exact hcap)
    (fun hne i hi => by
      have hs : p.sub1 ≠ none := fun e => hne (hsub.1 e)
      rw [hub] at hi
      obtain ⟨-, -, hrange⟩ := hsamples i hi
      obtain ⟨h₀, h₁⟩ := hdec i hi
      rw [h₀, h₁ hs]
      exact hrange hs)
  rw [hub] at hvs
  have hvf : v.fault = false := by rw [hvframe]; exact huf
  have hvpos : v.bitpos = s.bitpos + (p.bodyBits (p.bps siBps)).length :=
    (by rw [hvframe] : v.bitpos = u.bitpos).trans hread.bitpos
  have hvstream : v.stream = s.stream := (by rw [hvframe] : v.stream = u.stream).trans hread.stream
  have hend := frameEnd_spec (crc := p.crc16) hvf (by rw [hvpos]; exact hpad)
    (by rw [hvstream, hvpos]; exact (carries_append.1 h).2)
  refine ⟨v.setBitpos (v.bitpos + pad.length + 16), ?_, hvf, ?_, ?_, by rw [State.setBitpos_bitpos, hvpos], fun i hi => ?_, fun hs i hi => ?_⟩
  · rw [frameBody, hu, seq_live _ huf, hv, seq_live _ hvf, hend]
  · rw [State.setBitpos_decState, hvframe, hread.frame]
    rfl
  · rw [State.setBitpos_fr, hvframe]
    exact hread.fr
  · obtain ⟨h₀, -⟩ := hdec i hi
    exact (congrArg Prod.fst (hvs i hi)).trans h₀
  · obtain ⟨-, h₁⟩ := hdec i hi
    exact (congrArg Prod.snd (hvs i hi)).trans (h₁ hs)

/-- A plan's sample size does not hang on what the header reads for `SI_BPS`, but for size code 0. -/
theorem FramePlan.bps_congr (p : FramePlan) {a b : Nat} (h : p.ss = 0 → a = b) : p.bps a = p.bps b := by
  by_cases h0 : p.ss = 0
  · rw [h h0]
  · rw [FramePlan.bps, FramePlan.bps, tableBps_of_ne_zero (toNat_ne_of_ne h0) a, tableBps_of_ne_zero (toNat_ne_of_ne h0) b]

/-- `decode_audio` where a frame follows returns behind the frame (R158). -/
theorem execDecodeAudio_of_frame {s t : State} (hf : s.fault = false) (hc : legal .decodeAudio s.decState = true)
    (he : s.eos = false) (ht : decodeFrame (s.setFrValid false) = .next t) (htf : t.fault = false) :
    execDecodeAudio s = .next (t.setFrValid true).finish := by
  have hclear : ¬(s.setFrValid false).eos = true := by
    show ¬s.eos = true
    simp [he]
  rw [execDecodeAudio, command_eq_body _ hf hc]
  simp only [if_neg hclear]
  rw [ht, seq_live _ htf]

/-- Settles O34: the header leaves the plan's frame registers, the subframes and the decorrelation its samples, and the
padding and the CRC-16 are read whatever they hold. -/
theorem frameDecodesToItsSamples : Obligations.FrameDecodesToItsSamples := by
  intro s p pad out0 out1 hf hstate hp hss hout hpad h
  rw [FramePlan.bits_eq] at hpad h ⊢
  simp only [List.append_assoc _ pad, List.append_assoc p.headerBits] at h
  let s₁ := s.setFrValid false
  obtain ⟨hhdr, hbody⟩ := carries_append.1 h
  obtain ⟨si, d, w, hsi, hparsed, hrun⟩ := headerFields_spec (s := s₁) hf hp hhdr
  let u : State := { s₁ with bitpos := s₁.bitpos + p.headerBits.length, draw := d, work := w }
  let v := u.setFrameRegs (p.registers si)
  have hregs : writeFrameRegs u = .next v := by
    obtain ⟨-, -, -, -, -, -, -, hcap, -⟩ := hp
    exact writeFrameRegs_parsed hparsed hcap
  have hbps : p.bps si.bps.toNat = p.bps s.si.bps.toNat := p.bps_congr fun h0 => by rw [hsi (hss h0)]; rfl
  obtain ⟨t, ht, htf, htd, htfr, htpos, ht0, ht1⟩ := frameBody_spec (s := v) (siBps := s.si.bps.toNat) hf hp
    (p.registers_blocksize hp si) ((p.registers_bps si).trans hbps) rfl (p.registers_nch hp si) hout
    (by rw [hpad, List.length_append, ← Nat.add_assoc]; rfl) hbody
  have hframe : decodeFrame s₁ = .next t := by
    rw [decodeFrame_eq, hrun, seq_live _ (by exact hf)]
    show seq (writeFrameRegs u) frameBody = _
    rw [hregs, seq_live _ (by exact hf), ht]
  have heos : s.eos = false := by
    have hlen := h.bound
    have hpre : 32 ≤ p.headerBits.length := by
      rw [FramePlan.headerBits, List.length_append]
      exact Nat.le_add_right 32 _
    rw [List.length_append] at hlen
    exact decide_eq_false (by rw [State.bitLength]; omega)
  have hlegal : legal .decodeAudio s.decState = true := by
    rcases hstate with h | h <;> rw [h] <;> rfl
  refine ⟨_, execDecodeAudio_of_frame hf hlegal heos hframe htf, htf, rfl, htd, ?_, ?_, ?_, ?_, ?_, fun hsr => ?_, ht0, ht1⟩
  · refine Eq.trans htpos ?_
    rw [List.length_append, ← Nat.add_assoc]
    rfl
  · exact (congrArg (·.blocksize.toNat) htfr).trans (p.registers_blocksize hp si)
  · exact congrArg (·.chAssign) htfr
  · exact (congrArg (·.nch.toNat) htfr).trans (p.registers_nch hp si)
  · exact ((congrArg (·.bps.toNat) htfr).trans (p.registers_bps si)).trans hbps
  · have hrate : tableRate p.sr.toNat si.rate.toNat p.rateExt = tableRate p.sr.toNat s.si.rate.toNat p.rateExt := by
      rcases hsr with h0 | hv
      · rw [tableRate_of_ne_zero (toNat_ne_of_ne h0) si.rate.toNat, tableRate_of_ne_zero (toNat_ne_of_ne h0) s.si.rate.toNat]
      · rw [hsi hv]
        rfl
    exact ((congrArg (·.rate.toNat) htfr).trans (p.registers_rate hp si)).trans hrate

end Sys2Proof.Machine
end

section
/-! The calls of the bit source as instructions (R130 to R137): O2 to O6. -/

namespace Sys2Proof.Machine

section
variable {s : State} {n : Nat}

/-! ## Fields -/

theorem raise_faults (r : Raise) (s : State) : FaultsWith (raise r s) s r := faultsWith_raise rfl rfl rfl rfl rfl

/-- A read that the stream cuts short faults, whatever it was for (R77). -/
theorem withUint_faults_short (f : Nat → State → Out) (hn : 0 < n) (hb : s.bitLength < s.bitpos + n) :
    FaultsWith (withUint n s f) s .endOfStream := by
  rw [withUint_short f hn hb]
  exact raise_faults _ s

theorem getUint_eq (hf : s.fault = false) (hn : n ≤ 64) :
    exec (.getUint n) s = withUint n s fun v t => .next (t.setResult v) := by
  show execGetUint n s = _
  rw [execGetUint, live_ok _ hf]
  exact if_pos hn

theorem getUint_ok (hf : s.fault = false) (hn : n ≤ 64) (hb : s.bitpos + n ≤ s.bitLength) :
    exec (.getUint n) s =
      .next { s with bitpos := s.bitpos + n, result := (memRead s.stream s.bitpos n : Int) } :=
  (getUint_eq hf hn).trans (withUint_ok _ hb)

/-- A field read in two calls: the first value is the more significant part of the field's, and the second call ends
where the field does (R130). -/
theorem getUint_split {a b : Nat} (hf : s.fault = false) (hn : a + b ≤ 64) (hb : s.bitpos + (a + b) ≤ s.bitLength) :
    ∃ t u v : State, exec (.getUint a) s = .next t ∧ exec (.getUint b) t = .next u ∧
      exec (.getUint (a + b)) s = .next v ∧ t.result * 2 ^ b + u.result = v.result ∧ u.bitpos = v.bitpos := by
  let t : State := { s with bitpos := s.bitpos + a, result := (memRead s.stream s.bitpos a : Int) }
  have hrest : t.bitpos + b ≤ t.bitLength := by rwa [← Nat.add_assoc] at hb
  refine ⟨t, _, _, getUint_ok hf (by omega) (by omega), getUint_ok (s := t) hf (by omega) hrest, getUint_ok hf hn hb,
    ?_, Nat.add_assoc _ _ _⟩
  have hsplit := memRead_split s.stream s.bitpos a b
  show (memRead s.stream s.bitpos a : Int) * 2 ^ b + (memRead s.stream (s.bitpos + a) b : Int) = _
  rw [hsplit]
  push_cast
  rfl

theorem getInt_eq (hf : s.fault = false) (hn : n ≤ 64) :
    exec (.getInt n) s = withInt n s fun v t => .next (t.setResult v) := by
  show execGetInt n s = _
  rw [execGetInt, live_ok _ hf]
  exact if_pos hn

/-! ## Octets -/

theorem getByte_eq (hf : s.fault = false) :
    exec .getByte s = withUint 8 s fun v t => .next (t.setResult v) := by
  show execGetByte s = _
  rw [execGetByte, live_ok _ hf]

theorem getByte_eq_getUint (hf : s.fault = false) : exec .getByte s = exec (.getUint 8) s :=
  (getByte_eq hf).trans (getUint_eq hf (by decide)).symm

theorem getByte_ok (hf : s.fault = false) (hb : s.bitpos + 8 ≤ s.bitLength) :
    exec .getByte s = .next { s with bitpos := s.bitpos + 8, result := (memRead s.stream s.bitpos 8 : Int) } :=
  (getByte_eq_getUint hf).trans (getUint_ok hf (by decide) hb)

theorem getByte_short (hf : s.fault = false) (hb : s.bitLength < s.bitpos + 8) :
    exec .getByte s = raise .endOfStream s :=
  (getByte_eq hf).trans (withUint_short _ (by decide) hb)

/-! ## Calls that read nothing -/

theorem align_eq (hf : s.fault = false) : exec .align s = .next s.align := by
  show execAlign s = _
  rw [execAlign, live_ok _ hf]

theorem clz8_eq (hf : s.fault = false) (b : Byte) : exec (.clz8 b) s = .next (s.setResult (clz8 b.toNat)) := by
  show execClz8 b s = _
  rw [execClz8, live_ok _ hf]

theorem eos_eq (hf : s.fault = false) :
    exec .eos s = .next { s with result := if s.bitpos = 8 * s.stream.length then 1 else 0 } := by
  have heos : s.eos = true ↔ s.bitpos = 8 * s.stream.length := decide_eq_true_iff
  show execEos s = _
  rw [execEos, live_ok _ hf]
  simp only [heos]
  rfl

/-- The highest 1 bit of a byte stands behind `clz8` zero bits (R134). -/
theorem clz8_brackets {b : Nat} (h0 : b ≠ 0) (hb : b < 256) :
    clz8 b ≤ 7 ∧ 2 ^ (7 - clz8 b) ≤ b ∧ b < 2 ^ (8 - clz8 b) := by
  have hm : Nat.log2 b < 8 := (Nat.log2_lt h0).2 hb
  have hlo : 2 ^ Nat.log2 b ≤ b := Nat.log2_self_le h0
  have hhi : b < 2 ^ (Nat.log2 b + 1) := Nat.lt_log2_self
  have hclz : clz8 b = 7 - Nat.log2 b := clz8_of_range hlo hhi
  have h7 : 7 - clz8 b = Nat.log2 b := by omega
  have h8 : 8 - clz8 b = Nat.log2 b + 1 := by omega
  rw [h7, h8]
  exact ⟨by omega, hlo, hhi⟩

/-! ## Unary counts -/

theorem getUnary_eq (hf : s.fault = false) :
    exec .getUnary s = withUnary s fun q t => .next (t.setResult q) := by
  show execGetUnary s = _
  rw [execGetUnary, live_ok _ hf]

theorem withUnary_none (f : Nat → State → Out) (h : s.src.unary = none) : withUnary s f = raise .endOfStream s := by
  rw [withUnary, h]

theorem withUnary_some {q : Nat} (f : Nat → State → Out) (h : s.src.unary = some q) :
    withUnary s f = consume (q + 1) s (f q) := by
  rw [withUnary, h]

/-- No 1 bit left, no unary count. -/
theorem unary_eq_none (h : ∀ i, s.bitpos + i < s.bitLength → bitAt s.stream (s.bitpos + i) = false) :
    s.src.unary = none := by
  refine Option.eq_none_iff_forall_ne_some.2 fun q hq => ?_
  obtain ⟨hlt, -, hone⟩ := countZeros_eq_some hq
  have hin : s.bitpos + q < s.bitLength := Nat.add_lt_of_lt_sub' hlt
  exact Bool.false_ne_true ((h q hin).symm.trans hone)

/-! ## Octets dropped -/

/-- Bits consumed in two moves are consumed in one. -/
theorem consume_consume (m n : Nat) (s : State) (f : State → Out) :
    consume m s (fun t => consume n t f) = consume (m + n) s f := by
  by_cases hm : s.bitpos + m ≤ s.bitLength
  · rw [consume_ok _ hm, consume, consume, State.setBitpos_bitpos, Nat.add_assoc]
    rfl
  · rw [consume_short _ (by omega), consume_short _ (by omega)]

/-- One octet dropped: 8 bits consumed, no value kept. -/
theorem getBytes_succ (hf : s.fault = false) : getBytes (n + 1) s = consume 8 s (getBytes n) := by
  rw [getBytes]
  by_cases hb : s.bitpos + 8 ≤ s.bitLength
  · rw [getByte_ok hf hb, seq_live _ (by exact hf), consume_ok _ hb]
    rfl
  · rw [getByte_short hf (by omega), consume_short _ (by omega)]
    exact seq_faulted _ rfl

/-- Octet by octet is as good as all at once (R137). -/
theorem getBytes_eq_skipBytes (hf : s.fault = false) (hpos : s.bitpos ≤ s.bitLength) :
    getBytes n s = skipBytes n s := by
  induction n generalizing s with
  | zero => exact (consume_ok (n := 0) _ hpos).symm
  | succ n ih =>
    have hrest : consume 8 s (getBytes n) = consume 8 s (skipBytes n) := by
      by_cases hb : s.bitpos + 8 ≤ s.bitLength
      · rw [consume_ok _ hb, consume_ok _ hb, ih (s := s.setBitpos (s.bitpos + 8)) hf hb]
      · rw [consume_short _ (by omega), consume_short _ (by omega)]
    calc getBytes (n + 1) s = consume 8 s (skipBytes n) := (getBytes_succ hf).trans hrest
      _ = consume (8 + 8 * n) s .next := consume_consume 8 (8 * n) s .next
      _ = skipBytes (n + 1) s := by rw [skipBytes, Nat.mul_succ, Nat.add_comm]

end

/-! ## The statements -/

/-- Settles O2: the value is the field at `BITPOS`, and a field splits at any bit (`memRead_split`). -/
theorem getUintReads : Obligations.GetUintReads := by
  intro s n hf hn
  refine ⟨?_, fun _ hb => ⟨getUint_ok hf hn hb, memRead_lt _ _ _⟩, fun h0 hb => ?_, ?_⟩
  · rintro rfl
    exact getUint_eq hf hn
  · rw [getUint_eq hf hn]
    exact withUint_faults_short _ h0 hb
  · rintro a b rfl hb
    exact getUint_split hf hn hb

/-- Settles O3: the value is `sext` of the field, which keeps the field's range (`sext_bounds`). -/
theorem getIntSignExtends : Obligations.GetIntSignExtends := by
  intro s n hf hn
  rw [getInt_eq hf hn]
  refine ⟨?_, fun h0 hb => ?_, withUint_faults_short _⟩
  · rintro rfl
    rfl
  · obtain ⟨hlo, hhi⟩ := sext_bounds h0 (memRead_lt s.stream s.bitpos n)
    exact ⟨sext n (memRead s.stream s.bitpos n), withInt_ok _ hb, if_neg h0.ne', hlo, Int.le_sub_one_of_lt hhi⟩

/-- Settles O4: `get_byte` and `get_uint(8)` are one read, `clz8` is bracketed by powers of two (`clz8_brackets`). -/
theorem getByteAlignClz8Eos : Obligations.GetByteAlignClz8Eos := by
  intro s hf
  refine ⟨getByte_eq_getUint hf, getByte_ok hf, fun hb => ?_, align_eq hf, by omega, fun _ => by omega,
    fun b => ⟨clz8 b.toNat, clz8_eq hf b, ?_, fun h0 => ?_⟩, eos_eq hf⟩
  · rw [getByte_short hf hb]
    exact raise_faults _ s
  · rintro rfl
    rfl
  · have hnat : b.toNat ≠ 0 := fun h => h0 (BitVec.eq_of_toNat_eq h)
    exact clz8_brackets hnat b.isLt

/-- Settles O5: zero bits up to a 1 bit are the unary count of the stream, and a count found ends with a 1 bit. -/
theorem getUnaryCountsZeros : Obligations.GetUnaryCountsZeros := by
  intro s hf
  rw [getUnary_eq hf]
  refine ⟨fun q hb hzeros hone => ?_, fun hnone => ?_⟩
  · have hq : s.src.unary = some q := unary_of_carries (carries_unaryBits hb hzeros hone)
    rw [withUnary_some _ hq]
    exact consume_ok _ hb
  · rw [withUnary_none _ (unary_eq_none hnone)]
    exact raise_faults _ s

/-- Settles O6: octet by octet by `getBytes_eq_skipBytes`, the rest from the one move. -/
theorem skipBytesReadsOctets : Obligations.SkipBytesReadsOctets := by
  intro s n hf hpos
  have hskip : exec (.skipBytes n) s = skipBytes n s := live_ok _ hf
  rw [hskip]
  refine ⟨(getBytes_eq_skipBytes hf hpos).symm, consume_ok _, fun hb => ?_⟩
  rw [skipBytes, consume_short _ hb]
  exact raise_faults _ s

end Sys2Proof.Machine
end

section
/-! The latched fault and the guards of the commands: O16, and the refusals of O18 (R150, R161). -/

namespace Sys2Proof.Machine

section
variable {s t : State}

/-! ## Under a latched fault -/

/-- Every meaning but that of the unused command number begins with the test of the fault latch (R161). -/
theorem exec_of_fault {i : Instr} (hi : i ≠ .command3Unused) (hf : s.fault = true) : exec i s = .next s := by
  cases i
  case command3Unused => exact absurd rfl hi
  all_goals exact if_pos hf

/-- Under a latched fault a step that is no construction only takes the request off the port. -/
theorem step_of_fault (hf : s.fault = true) (hc : ∀ stream n rest, s.port ≠ .construct stream n :: rest)
    (h : step s = .next t) : ∃ rest, t = s.setPort rest := by
  have hexec : ∀ {rest : List Request} {i : Instr}, exec i (s.setPort rest) = .next t → t = s.setPort rest := by
    intro rest i hi
    have hne : i ≠ .command3Unused := by rintro rfl; cases hi
    rw [exec_of_fault (s := s.setPort rest) hne hf] at hi
    cases hi
    rfl
  rcases hport : s.port with _ | ⟨r, rest⟩
  · rw [step_idle hport] at h
    cases h
    exact ⟨s.port, rfl⟩
  refine ⟨rest, ?_⟩
  cases r with
  | construct stream n => exact absurd hport (hc stream n rest)
  | command n => rw [step_command hport] at h; exact hexec h
  | bitSource q => rw [step_bitSource hport] at h; exact hexec h
  | element k =>
    cases hd : s.decodeAt k with
    | ok i => rw [step_element_ok hport hd] at h; exact hexec h
    | error r =>
      rw [step_element_error hport hd, live_faulted (s := s.setPort rest) _ hf] at h
      cases h
      rfl

end

/-- Settles O16: every instruction tests the latch first (`exec_of_fault`), and a step leaves all but the port. -/
theorem latchedFaultIsReturnedAgain : Obligations.LatchedFaultIsReturnedAgain := by
  intro s hf
  refine ⟨fun i hi => exec_of_fault hi hf, if_pos hf, fun t hc h => ?_⟩
  obtain ⟨rest, rfl⟩ := step_of_fault hf hc h
  rfl

/-! ## Guards -/

/-- A live command outside its legal states is A07, which writes the latch alone (R150). -/
theorem command_eq_illegal {c : Command} {s : State} (f : State → Out) (hf : s.fault = false)
    (hc : legal c s.decState = false) : command c s f = raiseIllegal c s :=
  (live_ok _ hf).trans (if_neg (by simp [hc]))

end Sys2Proof.Machine
end

section
/-! `decode_marker` and `decode_metadata` on every stream (R152 to R157): O26, O27, O28 and O29. -/

namespace Sys2Proof.Machine

/-! ## A leaf as its decoder answers -/

section
variable {s : State} {k : Kind} {i : Instr} {r : Raise} {n : Nat}

theorem runLeaf_ok (hf : s.fault = false) (hd : s.decodeAt k = .ok i) : runLeaf k s = execLeaf i s := by
  rw [runLeaf, live_ok _ hf, hd]

theorem runLeaf_error (hf : s.fault = false) (hd : s.decodeAt k = .error r) : runLeaf k s = raise r s := by
  rw [runLeaf, live_ok _ hf, hd]

theorem runLeaf_faults (hf : s.fault = false) (hd : s.decodeAt k = .error r) : FaultsWith (runLeaf k s) s r := by
  rw [runLeaf_error hf hd]
  exact faultsWith_raise rfl rfl rfl rfl rfl

theorem src_has (h : s.bitpos + n ≤ s.bitLength) : s.src.has n = true := decide_eq_true h

theorem src_has_not (h : s.bitLength < s.bitpos + n) : s.src.has n = false := decide_eq_false h.not_ge

theorem whole_src (h : s.bitpos + n ≤ s.bitLength) : whole n s.src i = .ok i := if_pos (src_has h)

theorem whole_src_short (h : s.bitLength < s.bitpos + n) : whole n s.src i = .error .endOfStream :=
  if_neg (by simp [src_has_not h])

/-- The stream as seen from behind `n` bits. -/
theorem ahead_readTo (s : State) (n : Nat) (w : Work) (off width : Nat) :
    (s.readTo n w).ahead off width = s.ahead (n + off) width := by
  show memRead s.stream (s.bitpos + n + off) width = _
  rw [Nat.add_assoc]
  rfl

end

/-! ## The marker -/

section
variable {s : State}

theorem execDecodeMarker_eq (hf : s.fault = false) (hstate : s.decState = .init) :
    exec .decodeMarker s = seq (runLeaf .marker s) fun t => .next (t.setDecState .hasMarker).finish := by
  show execDecodeMarker s = _
  rw [execDecodeMarker, command_eq_body _ hf (by rw [hstate]; rfl)]

theorem decodeAt_marker (hb : s.bitpos + 32 ≤ s.bitLength) : s.decodeAt .marker =
    if s.ahead 0 32 = Config.marker then .ok .marker else .error (.gotOf .p01 (s.ahead 0 32) Config.marker) := by
  show decodeMarkerElem s.src = _
  rw [decodeMarkerElem, src_has hb]
  rfl

theorem decodeAt_marker_short (hb : s.bitLength < s.bitpos + 32) : s.decodeAt .marker = .error .endOfStream := by
  show decodeMarkerElem s.src = _
  rw [decodeMarkerElem, src_has_not hb]
  rfl

end

/-- Settles O26: the marker's decoder compares the 32 bits, and its leaf consumes them. -/
theorem decodeMarkerChecksTheMarker : Obligations.DecodeMarkerChecksTheMarker := by
  intro s hf hstate
  rw [execDecodeMarker_eq hf hstate]
  refine ⟨fun hb hv => ?_, fun hb hv => ?_, fun hb => ?_⟩
  · have hleaf : runLeaf .marker s = .next (s.setBitpos (s.bitpos + 32)) := by
      rw [runLeaf_ok hf ((decodeAt_marker hb).trans (if_pos hv))]
      exact element_ok _ hf hb
    rw [hleaf, seq_live _ (by exact hf)]
    exact returns_finish _
  · exact (runLeaf_faults hf ((decodeAt_marker hb).trans (if_neg hv))).seq _
  · exact (runLeaf_faults hf (decodeAt_marker_short hb)).seq _

/-! ## The header of a metadata block -/

/-- Every row of a type reads the header with that type (R118). -/
theorem execLeaf_metaRow {last : Bool} {type : Nat} {length : BitVec 24} (ht : type < 2 ^ 7) (s : State) :
    execLeaf (metaRow last type length) s = metaHeader last type length s := by
  have hlow : ∀ n m : Nat, m % 2 ^ n = 0 → m ≤ type → type < m + 2 ^ n →
      m + (BitVec.ofNat n type).toNat = type := by
    intro n m hm hlo hhi
    obtain ⟨x, rfl⟩ := Nat.exists_eq_add_of_le hlo
    rw [BitVec.toNat_ofNat, Nat.add_mod, hm, Nat.zero_add, Nat.mod_mod, Nat.mod_eq_of_lt (by omega)]
  unfold metaRow
  split_ifs
  · subst type; rfl
  · obtain rfl : type = 1 := by omega
    rfl
  all_goals
    show metaHeader last (_ + (BitVec.ofNat _ type).toNat) length s = _
    rw [hlow _ _ (by decide) (by omega) (by omega)]

/-- The end of `decode_metadata`: `STATE` moves if the block was the last (R157). -/
def metadataReturn (s : State) : Out :=
  .next (if s.work.metaLast then s.setDecState .hasMetadata else s).finish

section
variable {s : State}

/-- The state behind a metadata block's header. -/
def State.afterMetaHdr (s : State) : State :=
  s.readTo 32 { s.work with
    metaLast := s.src.flag 0, metaType := BitVec.ofNat 7 (s.ahead 1 7), metaLength := s.src.bits 8 24 }

theorem runLeaf_metaHdr (hf : s.fault = false) (hb : s.bitpos + 32 ≤ s.bitLength) :
    runLeaf .metaHdr s = .next s.afterMetaHdr := by
  rw [runLeaf_ok (k := .metaHdr) hf (whole_src hb), execLeaf_metaRow BitSrc.field_lt]
  exact element_readTo hf hb rfl

theorem execDecodeMetadata_eq (hf : s.fault = false) (hstate : s.decState = .hasMarker) :
    exec .decodeMetadata s = seq (runLeaf .metaHdr s) fun t => seq (metadataBody t) metadataReturn := by
  show execDecodeMetadata s = _
  rw [execDecodeMetadata, command_eq_body _ hf (by rw [hstate]; rfl)]
  rfl

theorem execDecodeMetadata_short (hf : s.fault = false) (hstate : s.decState = .hasMarker)
    (hb : s.bitLength < s.bitpos + 32) : FaultsWith (exec .decodeMetadata s) s .endOfStream := by
  rw [execDecodeMetadata_eq hf hstate]
  exact (runLeaf_faults (k := .metaHdr) hf (whole_src_short hb)).seq _

theorem afterMetaHdr_type : s.afterMetaHdr.work.metaType = 0 ↔ s.ahead 1 7 = 0 := by
  have hlt : s.ahead 1 7 < 2 ^ 7 := memRead_lt _ _ _
  show BitVec.ofNat 7 (s.ahead 1 7) = 0 ↔ _
  rw [← BitVec.toNat_inj, BitVec.toNat_ofNat, Nat.mod_eq_of_lt hlt]
  rfl

theorem afterMetaHdr_last : s.afterMetaHdr.work.metaLast = true ↔ s.ahead 0 1 = 1 := by
  show s.src.flag 0 = true ↔ memRead s.stream (s.bitpos + 0) 1 = 1
  rw [memRead_one]
  exact Bool.toNat_eq_one.symm

/-- A block of another type than 0 is skipped. -/
theorem execDecodeMetadata_skip (hf : s.fault = false) (hstate : s.decState = .hasMarker)
    (hb : s.bitpos + 32 ≤ s.bitLength) (ht : s.ahead 1 7 ≠ 0) :
    exec .decodeMetadata s = seq (runLeaf .skippedBody s.afterMetaHdr) metadataReturn := by
  rw [execDecodeMetadata_eq hf hstate, runLeaf_metaHdr hf hb, seq_live _ (by exact hf), metadataBody,
    if_neg (mt afterMetaHdr_type.1 ht)]

/-- A block of type 0 is parsed. -/
theorem execDecodeMetadata_parse (hf : s.fault = false) (hstate : s.decState = .hasMarker)
    (hb : s.bitpos + 32 ≤ s.bitLength) (ht : s.ahead 1 7 = 0) :
    exec .decodeMetadata s = seq (runLeaf .streaminfoBody s.afterMetaHdr) metadataReturn := by
  rw [execDecodeMetadata_eq hf hstate, runLeaf_metaHdr hf hb, seq_live _ (by exact hf), metadataBody,
    if_pos (afterMetaHdr_type.2 ht)]

/-- The command behind the body: `STATE` is that of the header's last flag. -/
theorem returns_metadataReturn {t : State} (hstate : t.decState = .hasMarker)
    (hlast : t.work.metaLast = true ↔ s.ahead 0 1 = 1) :
    Returns (metadataReturn t) { t with decState := if s.ahead 0 1 = 1 then .hasMetadata else .hasMarker } := by
  unfold metadataReturn
  by_cases h : s.ahead 0 1 = 1
  · rw [if_pos h, if_pos (hlast.2 h)]
    exact returns_finish _
  · rw [if_neg h, if_neg (mt hlast.1 h), ← hstate]
    exact returns_finish _

end

/-- Settles O27: the body of a skipped block is `8 * length` bits of any content. -/
theorem decodeMetadataSkipsOtherTypes : Obligations.DecodeMetadataSkipsOtherTypes := by
  intro s hf hstate
  have hlen : s.afterMetaHdr.work.metaLength.toNat = s.ahead 8 24 := BitSrc.toNat_bits
  refine ⟨execDecodeMetadata_short hf hstate, fun hb ht => ?_, fun hhdr hb ht => ?_⟩
  · have hbody : runLeaf .skippedBody s.afterMetaHdr =
        .next (s.afterMetaHdr.setBitpos (s.bitpos + 32 + 8 * s.ahead 8 24)) := by
      rw [← hlen] at hb ⊢
      rw [runLeaf_ok (s := s.afterMetaHdr) (k := .skippedBody) hf (whole_src hb)]
      exact (live_ok (s := s.afterMetaHdr) (skipBytes _) hf).trans (consume_ok _ hb)
    rw [execDecodeMetadata_skip hf hstate (by omega) ht, hbody, seq_live _ (by exact hf)]
    exact returns_metadataReturn hstate afterMetaHdr_last
  · rw [execDecodeMetadata_skip hf hstate hhdr ht]
    rw [← hlen] at hb
    exact (runLeaf_faults (s := s.afterMetaHdr) (k := .skippedBody) hf (whole_src_short hb)).seq _

/-! ## The STREAMINFO body -/

section
variable {s : State}

theorem runLeaf_streaminfo_short {r : Raise} (hf : s.fault = false) (hb : s.bitLength < s.bitpos + 272)
    (hr : streaminfoViolation s.capacity s.src = r) : FaultsWith (runLeaf .streaminfoBody s) s r := by
  refine runLeaf_faults hf ?_
  show decodeStreaminfo s.capacity s.src = _
  rw [decodeStreaminfo, if_neg (by simp [src_has_not hb]), hr]

/-- The violation of a body that is cut short inside `max_block_size`. -/
theorem streaminfoViolation_short (hb : s.bitLength < s.bitpos + 32) :
    streaminfoViolation s.capacity s.src = .endOfStream := by
  rw [streaminfoViolation, src_has_not hb]
  rfl

/-- Behind `max_block_size` its check comes first. -/
theorem streaminfoViolation_capacity (hb : s.bitpos + 32 ≤ s.bitLength) (hcap : s.capacity < s.ahead 16 16) :
    streaminfoViolation s.capacity s.src = .gotOf .a02 (s.ahead 16 16) s.capacity := by
  have hfault : maxBlockFault s.capacity (s.src.field 16 16) = some _ := if_pos hcap
  rw [streaminfoViolation, src_has hb, hfault]
  rfl

/-- Behind a legal `max_block_size` the channel count decides. -/
theorem streaminfoViolation_count (hb : s.bitpos + 32 ≤ s.bitLength) (hcap : s.ahead 16 16 ≤ s.capacity) :
    streaminfoViolation s.capacity s.src =
      if s.bitpos + 103 ≤ s.bitLength ∧ 2 < s.ahead 100 3 + 1 then .gotOf .a01 (s.ahead 100 3 + 1 : Nat) 2
      else .endOfStream := by
  have hblock : maxBlockFault s.capacity (s.src.field 16 16) = none := if_neg hcap.not_gt
  rw [streaminfoViolation, src_has hb, hblock]
  by_cases h103 : s.bitpos + 103 ≤ s.bitLength
  · rw [src_has h103]
    by_cases hcount : 2 < s.ahead 100 3 + 1
    · have hfault : channelCountFault (s.src.field 100 3 + 1) = some _ := if_pos hcount
      rw [hfault]
      exact (if_pos ⟨h103, hcount⟩).symm
    · have hfault : channelCountFault (s.src.field 100 3 + 1) = none := if_neg hcount
      rw [hfault]
      exact (if_neg fun ⟨_, h⟩ => hcount h).symm
  · rw [src_has_not (not_le.1 h103)]
    exact (if_neg fun ⟨h, _⟩ => h103 h).symm

/-- The `SI_*` group of a STREAMINFO body at `BITPOS`, the transforms of R93 done. -/
def State.streaminfoAhead (s : State) : StreamInfo where
  minBlock := BitVec.ofNat 16 (s.ahead 0 16)
  maxBlock := BitVec.ofNat 16 (s.ahead 16 16)
  minFrame := BitVec.ofNat 24 (s.ahead 32 24)
  maxFrame := BitVec.ofNat 24 (s.ahead 56 24)
  rate := BitVec.ofNat 20 (s.ahead 80 20)
  channels := BitVec.ofNat 4 (s.ahead 100 3 + 1)
  bps := BitVec.ofNat 6 (s.ahead 103 5 + 1)
  total := BitVec.ofNat 36 (s.ahead 108 36)

/-- A whole body: A02, A01, or the group written (R154, R155). -/
theorem runLeaf_streaminfo_whole (hf : s.fault = false) (hb : s.bitpos + 272 ≤ s.bitLength) :
    (s.capacity < s.ahead 16 16 →
      FaultsWith (runLeaf .streaminfoBody s) s (.gotOf .a02 (s.ahead 16 16) s.capacity)) ∧
    (s.ahead 16 16 ≤ s.capacity → 2 ≤ s.ahead 100 3 →
      FaultsWith (runLeaf .streaminfoBody s) s (.gotOf .a01 (s.ahead 100 3 + 1 : Nat) 2)) ∧
    (s.ahead 16 16 ≤ s.capacity → s.ahead 100 3 ≤ 1 → runLeaf .streaminfoBody s =
      .next { s with bitpos := s.bitpos + 272, siValid := true, si := s.streaminfoAhead }) := by
  have hd : s.decodeAt .streaminfoBody = .ok (.streaminfoBody (s.src.bits 0 16) (s.src.bits 16 16) (s.src.bits 32 24)
    (s.src.bits 56 24) (s.src.bits 80 20) (s.src.bits 100 3) (s.src.bits 103 5) (s.src.bits 108 36)
    (s.src.bits 144 128)) := if_pos (src_has hb)
  have hblock : (s.src.bits 16 16).toNat = s.ahead 16 16 := BitSrc.toNat_bits
  have hchannels : (s.src.bits 100 3).toNat = s.ahead 100 3 := BitSrc.toNat_bits
  have hbps : (s.src.bits 103 5).toNat = s.ahead 103 5 := BitSrc.toNat_bits
  have hrow := streaminfoBodyElement s (s.src.bits 0 16) (s.src.bits 16 16) (s.src.bits 32 24) (s.src.bits 56 24)
    (s.src.bits 80 20) (s.src.bits 100 3) (s.src.bits 103 5) (s.src.bits 108 36) (s.src.bits 144 128) hf hb
  rw [hblock, hchannels, hbps] at hrow
  rw [runLeaf_ok hf hd]
  exact hrow

/-- A02 as soon as `max_block_size` is whole, however much follows (R155). -/
theorem runLeaf_streaminfo_capacity (hf : s.fault = false) (hb : s.bitpos + 32 ≤ s.bitLength)
    (hcap : s.capacity < s.ahead 16 16) :
    FaultsWith (runLeaf .streaminfoBody s) s (.gotOf .a02 (s.ahead 16 16) s.capacity) := by
  by_cases h272 : s.bitpos + 272 ≤ s.bitLength
  · obtain ⟨hfault, -⟩ := runLeaf_streaminfo_whole hf h272
    exact hfault hcap
  · exact runLeaf_streaminfo_short hf (not_le.1 h272) (streaminfoViolation_capacity hb hcap)

/-- A01 as soon as the channel count is whole, behind a legal `max_block_size` (R155). -/
theorem runLeaf_streaminfo_count (hf : s.fault = false) (hb : s.bitpos + 103 ≤ s.bitLength)
    (hcap : s.ahead 16 16 ≤ s.capacity) (hcount : 2 < s.ahead 100 3 + 1) :
    FaultsWith (runLeaf .streaminfoBody s) s (.gotOf .a01 (s.ahead 100 3 + 1 : Nat) 2) := by
  by_cases h272 : s.bitpos + 272 ≤ s.bitLength
  · obtain ⟨-, hfault, -⟩ := runLeaf_streaminfo_whole hf h272
    exact hfault hcap (by omega)
  · exact runLeaf_streaminfo_short hf (not_le.1 h272)
      ((streaminfoViolation_count (by omega) hcap).trans (if_pos ⟨hb, hcount⟩))

/-- P11 where the body is cut short, every check before the cut passed. -/
theorem runLeaf_streaminfo_cut (hf : s.fault = false) (hb : s.bitLength < s.bitpos + 272)
    (hcap : s.bitpos + 32 ≤ s.bitLength → s.ahead 16 16 ≤ s.capacity)
    (hcount : s.bitpos + 103 ≤ s.bitLength → s.ahead 100 3 + 1 ≤ 2) :
    FaultsWith (runLeaf .streaminfoBody s) s .endOfStream := by
  refine runLeaf_streaminfo_short hf hb ?_
  by_cases h32 : s.bitpos + 32 ≤ s.bitLength
  · exact (streaminfoViolation_count h32 (hcap h32)).trans (if_neg fun ⟨h, hlt⟩ => hlt.not_ge (hcount h))
  · exact streaminfoViolation_short (not_le.1 h32)

end

/-- Settles O28: behind the header the fields of the body stand 32 bits further on. -/
theorem decodeMetadataParsesStreaminfo : Obligations.DecodeMetadataParsesStreaminfo := by
  intro s hf hstate htype hb hcap hcount
  have hblock : s.afterMetaHdr.ahead 16 16 = s.ahead 48 16 := ahead_readTo _ _ _ _ _
  have hchannels : s.afterMetaHdr.ahead 100 3 = s.ahead 132 3 := ahead_readTo _ _ _ _ _
  obtain ⟨-, -, hbody⟩ := runLeaf_streaminfo_whole (s := s.afterMetaHdr) hf hb
  rw [execDecodeMetadata_parse hf hstate (by omega) htype,
    hbody (hblock.trans_le hcap) (hchannels.trans_le (by omega)), seq_live _ (by exact hf)]
  simp only [State.streaminfoAhead, State.afterMetaHdr, ahead_readTo]
  exact returns_metadataReturn hstate afterMetaHdr_last

/-- Settles O29: the body's own checks, behind the 32 bits of the header. -/
theorem streaminfoChecksInOrder : Obligations.StreaminfoChecksInOrder := by
  intro s hf hstate htype hhdr
  have hblock : s.afterMetaHdr.ahead 16 16 = s.ahead 48 16 := ahead_readTo _ _ _ _ _
  have hchannels : s.afterMetaHdr.ahead 100 3 = s.ahead 132 3 := ahead_readTo _ _ _ _ _
  have hpos : s.afterMetaHdr.bitpos = s.bitpos + 32 := rfl
  have hlen : s.afterMetaHdr.bitLength = s.bitLength := rfl
  have hcap := runLeaf_streaminfo_capacity (s := s.afterMetaHdr) hf
  have hcount := runLeaf_streaminfo_count (s := s.afterMetaHdr) hf
  have hcut := runLeaf_streaminfo_cut (s := s.afterMetaHdr) hf
  rw [hblock, hpos, hlen] at hcap
  rw [hblock, hchannels, hpos, hlen] at hcount hcut
  have hfaults : ∀ r, FaultsWith (runLeaf .streaminfoBody s.afterMetaHdr) s.afterMetaHdr r →
      FaultsWith (exec .decodeMetadata s) s r := fun r h => by
    rw [execDecodeMetadata_parse hf hstate hhdr htype]
    exact FaultsWith.seq (s := s) h _
  refine ⟨fun hb => ?_, fun hb hc => ?_, fun hb hb' hc => ?_, fun hb hc hn => ?_, fun hb hb' hc hn => ?_,
    fun hb hc hn => ?_⟩
  · exact hfaults _ (hcut (by omega) (fun h => by omega) fun h => by omega)
  · exact hfaults _ (hcap (by omega) hc)
  · exact hfaults _ (hcut (by omega) (fun _ => hc) fun h => by omega)
  · exact hfaults _ (hcount (by omega) hc hn)
  · exact hfaults _ (hcut (by omega) (fun _ => hc) fun _ => hn)
  · obtain ⟨t, ht, hret⟩ := decodeMetadataParsesStreaminfo s hf hstate htype hb hc hn
    exact ⟨t, ht, by rw [hret]; exact hf⟩

end Sys2Proof.Machine
end

section
/-! The state machine: what keeps `STATE`, and what each command that returned `OK` makes of it (R151): O19. -/

namespace Sys2Proof.Machine

/-! ## What keeps `STATE` -/

section
variable {s t : State} {d : DecState}

theorem Goes.decState (h : Goes s t) : t.decState = s.decState := by rw [h.frame]

theorem Advances.decState (h : Advances s t) : t.decState = s.decState := by
  rcases h with h | ⟨u, r, h, rfl⟩
  · exact h.decState
  · exact h.decState

theorem StreamInfoEnds.decState (h : StreamInfoEnds s t) : t.decState = s.decState := by
  rcases h with h | ⟨u, i, h, -, rfl⟩
  · exact h.decState
  · exact h.decState

theorem Runs.decState {p : Prop} {Q : State → Prop} {o : Out} (h : Runs p s Q o) (hs : s.decState = d) :
    Post (fun t => t.decState = d) o := h.advances.mono fun _ ha => ha.decState.trans hs

theorem live_keeps_decState {f : State → Out} (hf : Post (fun t => t.decState = s.decState) (f s)) :
    Post (fun t => t.decState = s.decState) (live s f) := post_live (fun _ => rfl) fun _ => hf

theorem withUint_keeps_decState (n : Nat) (g : Nat → Int) :
    Post (fun t => t.decState = s.decState) (withUint n s fun v t => .next (t.setResult (g v))) :=
  post_withUint rfl fun _ => (post_next _ _).2 rfl

/-- A read of at most 64 bits, refused for more (R130, R131). -/
theorem field_keeps_decState (n : Nat) (g : Nat → Int) :
    Post (fun t => t.decState = s.decState)
      (if n ≤ Config.maxField then withUint n s fun v t => .next (t.setResult (g v)) else .refused .fieldTooWide) := by
  split
  · exact withUint_keeps_decState n g
  · exact post_refused _ _

theorem withUnary_keeps_decState :
    Post (fun t => t.decState = s.decState) (withUnary s fun q t => .next (t.setResult q)) := by
  unfold withUnary
  split
  · exact post_raise _ s rfl
  · exact post_consume rfl fun _ => (post_next _ _).2 rfl

theorem call_keeps_decState (q : Primitive) (s : State) : Post (fun t => t.decState = s.decState) (exec q.instr s) := by
  cases q with
  | getUint n => show Post _ (execGetUint n s); exact live_keeps_decState (field_keeps_decState n fun v => v)
  | getInt n => show Post _ (execGetInt n s); exact live_keeps_decState (field_keeps_decState n (sext n))
  | getByte => show Post _ (execGetByte s); exact live_keeps_decState (withUint_keeps_decState 8 fun v => v)
  | align => show Post _ (execAlign s); exact live_keeps_decState ((post_next _ _).2 rfl)
  | clz8 b => show Post _ (execClz8 b s); exact live_keeps_decState ((post_next _ _).2 rfl)
  | eos => show Post _ (execEos s); exact live_keeps_decState ((post_next _ _).2 rfl)
  | getUnary => show Post _ (execGetUnary s); exact live_keeps_decState withUnary_keeps_decState
  | skipBytes n =>
    show Post _ (execSkipBytes n s)
    exact live_keeps_decState ((skipBytes_runs (p := False) n s).decState rfl)

theorem element_keeps_decState {i : Instr} {k : Kind} (hk : i.kind? = some k) (s : State) :
    Post (fun t => t.decState = s.decState) (exec i s) := by
  by_cases hsi : k = .streaminfoBody
  · subst hsi
    obtain ⟨t, ht, hends⟩ := execLeaf_streaminfo_ends hk s
    rw [execLeaf_eq, if_pos (by rw [hk]; rfl)] at ht
    rw [ht]
    exact (post_next _ _).2 hends.decState
  · exact (exec_runs (p := False) hk hsi False.elim).decState rfl

theorem metadataBody_keeps_decState (hs : s.decState = d) : Post (fun t => t.decState = d) (metadataBody s) := by
  unfold metadataBody
  split
  · obtain ⟨t, ht, hends⟩ := runLeaf_streaminfo_ends s
    rw [ht]
    exact (post_next _ _).2 (hends.decState.trans hs)
  · exact (plainLeaf_runs (p := False) (k := .skippedBody) rfl s).decState hs

theorem writeFrameRegs_keeps_decState (hs : s.decState = d) : Post (fun t => t.decState = d) (writeFrameRegs s) := by
  unfold writeFrameRegs
  split
  · exact post_raise _ s hs
  · exact (post_next _ _).2 hs

theorem decodeFrame_keeps_decState (hs : s.decState = d) : Post (fun t => t.decState = d) (decodeFrame s) := by
  rw [decodeFrame_eq]
  exact post_seq_inv ((headerFields_runs (p := False) s).decState hs) fun t ht =>
    post_seq_inv (writeFrameRegs_keeps_decState ht) fun u hu => (frameBody_runs (p := False) False.elim).decState hu

/-! ## A command that takes a fault -/

/-- The frame of a fault in a command: the latch set by A07, or by the body. -/
theorem command_faulted_decState {c : Command} {f : State → Out}
    (hf : s.fault = false → Post (fun t => t.fault = true → t.decState = s.decState) (f s)) :
    Post (fun t => t.fault = true → t.decState = s.decState) (command c s f) := by
  refine post_live (fun _ _ => rfl) fun hl => ?_
  split
  · exact hf hl
  · exact (post_next _ _).2 fun _ => rfl

/-- A part that keeps `STATE`, and then a return that takes no fault. -/
theorem seq_faulted_decState {o : Out} {f : State → Out} (ho : Post (fun t => t.decState = d) o)
    (hf : ∀ u, u.fault = false → u.decState = d → Post (fun t => t.fault = true → t.decState = d) (f u)) :
    Post (fun t => t.fault = true → t.decState = d) (seq o f) :=
  post_seq ho (fun _ h _ _ => h) fun u hu hl => hf u hl hu

theorem next_not_faulted {P : State → Prop} (h : t.fault = false) : Post (fun t => t.fault = true → P t) (.next t) :=
  (post_next _ _).2 fun h' => by simp [h] at h'

theorem decodeCommand_faulted_decState (n : BitVec 2) (s : State) :
    Post (fun t => t.fault = true → t.decState = s.decState) (exec (decodeCommand n) s) := by
  unfold decodeCommand
  split_ifs
  · show Post _ (execDecodeMarker s)
    exact command_faulted_decState fun _ => seq_faulted_decState
      ((plainLeaf_runs (p := False) (k := .marker) rfl s).decState rfl) fun u hu _ => next_not_faulted (by exact hu)
  · show Post _ (execDecodeMetadata s)
    refine command_faulted_decState fun _ => seq_faulted_decState
      ((plainLeaf_runs (p := False) (k := .metaHdr) rfl s).decState rfl) fun u _ hd =>
        seq_faulted_decState (metadataBody_keeps_decState hd) fun v hv _ => ?_
    split
    · exact next_not_faulted (by exact hv)
    · exact next_not_faulted (by exact hv)
  · show Post _ (execDecodeAudio s)
    refine command_faulted_decState fun hl => ?_
    simp only
    split
    · exact next_not_faulted (by exact hl)
    · exact seq_faulted_decState (decodeFrame_keeps_decState rfl) fun v hv _ => next_not_faulted (by exact hv)
  · exact post_refused _ _

/-- A step that is no construction keeps `STATE` under a fault, into a fault, and where it serves no command. -/
theorem step_keeps_decState {r : Request} {rest : List Request} (hport : s.port = r :: rest) (h : step s = .next t)
    (hr : ∀ stream n, r ≠ .construct stream n)
    (hcase : s.fault = true ∨ t.fault = true ∨ ∀ n, r ≠ .command n) : t.decState = s.decState := by
  cases r with
  | construct stream n => exact absurd rfl (hr stream n)
  | command n =>
    rw [step_command hport] at h
    rcases hcase with hs | ht | hn
    · have hne : decodeCommand n ≠ .command3Unused := by intro e; rw [e] at h; cases h
      rw [exec_of_fault (s := s.setPort rest) hne hs] at h
      cases h
      rfl
    · exact decodeCommand_faulted_decState n (s.setPort rest) t h ht
    · exact absurd rfl (hn n)
  | bitSource q =>
    rw [step_bitSource hport] at h
    exact call_keeps_decState q (s.setPort rest) t h
  | element k =>
    cases hd : s.decodeAt k with
    | ok i =>
      rw [step_element_ok hport hd] at h
      exact element_keeps_decState (yields_decodeElem _ k _ i hd) (s.setPort rest) t h
    | error e =>
      have hpost : Post (fun t => t.decState = s.decState) (live (s.setPort rest) (raise e)) :=
        post_live (fun _ => rfl) fun _ => post_raise e _ rfl
      rw [step_element_error hport hd] at h
      exact hpost t h

end

/-! ## A command that returned `OK` -/

section
variable {s t : State}

/-- A command that took no fault was legal in its state (R150). -/
theorem legal_of_command_ok {c : Command} {f : State → Out} (hf : s.fault = false) (h : command c s f = .next t)
    (ht : t.fault = false) : legal c s.decState = true := by
  by_contra hc
  rw [command_eq_illegal f hf (by simpa using hc)] at h
  cases h
  cases ht

theorem init_of_decodeMarker_ok (hf : s.fault = false) (h : execDecodeMarker s = .next t) (ht : t.fault = false) :
    s.decState = .init := of_decide_eq_true (legal_of_command_ok hf h ht)

theorem hasMarker_of_decodeMetadata_ok (hf : s.fault = false) (h : execDecodeMetadata s = .next t)
    (ht : t.fault = false) : s.decState = .hasMarker := of_decide_eq_true (legal_of_command_ok hf h ht)

theorem audio_of_decodeAudio_ok (hf : s.fault = false) (h : execDecodeAudio s = .next t) (ht : t.fault = false) :
    s.decState = .hasMetadata ∨ s.decState = .complete := by
  simpa [legal] using legal_of_command_ok hf h ht

theorem FaultsWith.fault_of_next {o : Out} {u : State} {r : Raise} (h : FaultsWith o u r) (ho : o = .next t) :
    t.fault = true := by
  obtain ⟨v, hv, hentry⟩ := h
  rw [ho] at hv
  cases hv
  exact hentry.1

theorem Returns.of_next {o : Out} {u : State} (h : Returns o u) (ho : o = .next t) :
    t.bitpos = u.bitpos ∧ t.decState = u.decState ∧ t.fault = u.fault := by
  obtain ⟨v, hv, hret⟩ := h
  rw [ho] at hv
  cases hv
  rw [hret]
  exact ⟨rfl, rfl, rfl⟩

/-- `decode_metadata` that returned has read the header at least, and moved `STATE` by the last flag. -/
theorem execDecodeMetadata_moves (hf : s.fault = false) (hstate : s.decState = .hasMarker)
    (h : exec .decodeMetadata s = .next t) (ht : t.fault = false) :
    s.bitpos + 32 ≤ t.bitpos ∧ t.decState = if s.ahead 0 1 = 1 then .hasMetadata else .hasMarker := by
  have hfaults : ∀ {r}, ¬FaultsWith (exec .decodeMetadata s) s r := fun hr => by
    have := hr.fault_of_next h
    simp [ht] at this
  obtain ⟨hshort, hskip, hcut⟩ := decodeMetadataSkipsOtherTypes s hf hstate
  have hhdr : s.bitpos + 32 ≤ s.bitLength := not_lt.1 fun hb => hfaults (hshort hb)
  by_cases htype : s.ahead 1 7 = 0
  · obtain ⟨h64, hcap, h135, hcount, h304, -⟩ := streaminfoChecksInOrder s hf hstate htype hhdr
    have hb64 : s.bitpos + 64 ≤ s.bitLength := not_lt.1 fun hb => hfaults (h64 hb)
    have hblock : s.ahead 48 16 ≤ s.capacity := not_lt.1 fun hlt => hfaults (hcap hb64 hlt)
    have hb135 : s.bitpos + 135 ≤ s.bitLength := not_lt.1 fun hb => hfaults (h135 hb64 hb hblock)
    have hchannels : s.ahead 132 3 + 1 ≤ 2 := not_lt.1 fun hlt => hfaults (hcount hb135 hblock hlt)
    have hb304 : s.bitpos + 304 ≤ s.bitLength := not_lt.1 fun hb => hfaults (h304 hb135 hb hblock hchannels)
    obtain ⟨hpos, hd, -⟩ :=
      (decodeMetadataParsesStreaminfo s hf hstate htype hb304 hblock hchannels).of_next h
    exact ⟨by rw [hpos]; simp, hd⟩
  · have hbody : s.bitpos + 32 + 8 * s.ahead 8 24 ≤ s.bitLength := not_lt.1 fun hb => hfaults (hcut hhdr hb htype)
    obtain ⟨hpos, hd, -⟩ := (hskip hbody htype).of_next h
    exact ⟨by rw [hpos]; simp, hd⟩

/-- `decode_audio` before the end of the stream has decoded a frame. -/
theorem execDecodeAudio_frame (he : s.eos = false) (h : execDecodeAudio s = .next t) (ht : t.fault = false) :
    ∃ v, decodeFrame (s.setFrValid false) = .next v ∧ v.fault = false ∧ t = (v.setFrValid true).finish := by
  have hbody := command_eq_next_ok h ht
  have hclear : ¬(s.setFrValid false).eos = true := by
    show ¬s.eos = true
    simp [he]
  simp only [if_neg hclear] at hbody
  obtain ⟨v, hv, hvl, hnext⟩ := seq_eq_next_ok hbody ht
  cases hnext
  exact ⟨v, hv, hvl, rfl⟩

/-- The transitions of `decode_audio`, decided by `eos()` (R151). -/
theorem execDecodeAudio_moves (hf : s.fault = false) (h : execDecodeAudio s = .next t) (ht : t.fault = false) :
    (s.eos = true ∧ t.decState = .complete) ∨ (s.eos = false ∧ t.frValid = true ∧ t.decState = s.decState) := by
  cases he : s.eos
  case true =>
    rw [execDecodeAudio_of_eos hf (legal_of_command_ok hf h ht) he] at h
    cases h
    exact .inl ⟨rfl, rfl⟩
  case false =>
    obtain ⟨v, hv, -, rfl⟩ := execDecodeAudio_frame he h ht
    exact .inr ⟨rfl, rfl, decodeFrame_keeps_decState (s := s.setFrValid false) rfl v hv⟩

end

/-- Settles O19: a fault and a step without a command keep `STATE` (`step_keeps_decState`); a command that returned was
legal in its state and moved as R151 has it. -/
theorem stateMachine : Obligations.StateMachine := by
  intro s t r rest hport hstep hend hr
  refine ⟨step_keeps_decState hport hstep hr, ?_⟩
  rintro n rfl hf ht
  rw [step_command hport] at hstep
  have hfr : (s.setPort rest).fault = false := hf
  unfold decodeCommand at hstep
  split_ifs at hstep with h0 h1 h2
  · obtain ⟨u, -, -, rfl⟩ := execDecodeMarker_ok hstep ht
    exact .inl ⟨init_of_decodeMarker_ok (s := s.setPort rest) hfr hstep ht, h0, rfl⟩
  · have hd : s.decState = .hasMarker := hasMarker_of_decodeMetadata_ok (s := s.setPort rest) hfr hstep ht
    obtain ⟨-, hmove⟩ := execDecodeMetadata_moves hfr hd hstep ht
    have hlast : memRead s.stream s.bitpos 1 < 2 := memRead_lt _ _ _
    have hbit : (s.setPort rest).ahead 0 1 = memRead s.stream s.bitpos 1 := rfl
    rw [hbit] at hmove
    by_cases hone : memRead s.stream s.bitpos 1 = 1
    · exact .inr (.inr (.inl ⟨hd, h1, hone, hmove.trans (if_pos hone)⟩))
    · exact .inr (.inl ⟨hd, h1, by omega, hmove.trans (if_neg hone)⟩)
  · have hd : s.decState = .hasMetadata ∨ s.decState = .complete :=
      audio_of_decodeAudio_ok (s := s.setPort rest) hfr hstep ht
    have hmove : (s.eos = true ∧ t.decState = .complete) ∨
        (s.eos = false ∧ t.frValid = true ∧ t.decState = s.decState) := execDecodeAudio_moves (s := s.setPort rest) hfr hstep ht
    rcases hd with hd | hd
    · rcases hmove with ⟨he, hc⟩ | ⟨he, hv, hm⟩
      · exact .inr (.inr (.inr (.inr (.inl ⟨hd, h2, he, hc⟩))))
      · exact .inr (.inr (.inr (.inl ⟨hd, h2, he, hv, hm.trans hd⟩)))
    · have heos : s.eos = true := hend hd hf
      rcases hmove with ⟨he, hc⟩ | ⟨he, -⟩
      · exact .inr (.inr (.inr (.inr (.inr ⟨hd, h2, he, hc⟩))))
      · simp [heos] at he
  · cases hstep

end Sys2Proof.Machine
end

section
/-! The faults that reading an element can report: never A07, which is the commands' alone (R150, R292). -/

namespace Sys2Proof

/-- No error of the decoder's answer is A07. -/
def NeverIllegal (e : Except Raise Instr) : Prop := ∀ r, e = .error r → r.cause ≠ .a07

section
variable {r : Raise} {c n : Nat}

theorem neverIllegal_error (h : r.cause ≠ .a07) : NeverIllegal (.error r) := fun _ he => by cases he; exact h

theorem neverIllegal_ok (i : Instr) : NeverIllegal (.ok i) := fun _ he => by cases he

theorem neverIllegal_whole (n : Nat) (b : BitSrc) (i : Instr) : NeverIllegal (whole n b i) := by
  unfold whole
  split
  · exact neverIllegal_ok i
  · exact neverIllegal_error (by decide)

/-! ## The codes' faults -/

theorem bsCodeFault_cause (h : bsCodeFault c = some r) : r.cause = .p05 := by
  unfold bsCodeFault at h
  split_ifs at h
  cases h
  rfl

theorem srCodeFault_cause (h : srCodeFault c = some r) : r.cause = .p06 := by
  unfold srCodeFault at h
  split_ifs at h
  cases h
  rfl

theorem caCodeFault_cause (h : caCodeFault c = some r) : r.cause = .a03 ∨ r.cause = .a04 := by
  unfold caCodeFault at h
  split_ifs at h
  · cases h; exact .inl rfl
  · cases h; exact .inr rfl

theorem ssCodeFault_cause (h : ssCodeFault c = some r) : r.cause = .p07 := by
  unfold ssCodeFault at h
  split_ifs at h
  cases h
  rfl

theorem maxBlockFault_cause (h : maxBlockFault n c = some r) : r.cause = .a02 := by
  unfold maxBlockFault at h
  split_ifs at h
  cases h
  rfl

theorem channelCountFault_cause (h : channelCountFault c = some r) : r.cause = .a01 := by
  unfold channelCountFault at h
  split_ifs at h
  cases h
  rfl

/-- A code's fault, or what follows it. -/
theorem cause_of_match (o : Option Raise) (e : Raise) : (∀ r, o = some r → r.cause ≠ .a07) → e.cause ≠ .a07 →
    Raise.cause (match o with | some r => r | none => e) ≠ .a07 := by
  cases o with
  | some r => exact fun hfault _ => hfault r rfl
  | none => exact fun _ hrest => hrest

theorem cause_of_ite {p : Prop} [Decidable p] {a b : Raise} (ha : a.cause ≠ .a07) (hb : b.cause ≠ .a07) :
    (if p then a else b).cause ≠ .a07 := by
  split
  · exact ha
  · exact hb

end

/-! ## The elements with checks of their own -/

theorem preambleViolation_cause (b : BitSrc) : (preambleViolation b).cause ≠ .a07 := by
  have hend : Raise.endOfStream.cause ≠ .a07 := by decide
  refine cause_of_ite hend (cause_of_ite (by simp [Raise.gotOf]) (cause_of_ite hend (cause_of_ite (by decide)
    (cause_of_ite hend (cause_of_match _ _ (fun r h => by simp [bsCodeFault_cause h]) (cause_of_ite hend
    (cause_of_match _ _ (fun r h => by simp [srCodeFault_cause h]) (cause_of_ite hend
    (cause_of_match _ _ (fun r h => ?_) (cause_of_ite hend
    (cause_of_match _ _ (fun r h => by simp [ssCodeFault_cause h]) (cause_of_ite hend (by decide)))))))))))))
  rcases caCodeFault_cause h with h | h <;> simp [h]

theorem streaminfoViolation_cause (n : Nat) (b : BitSrc) : (streaminfoViolation n b).cause ≠ .a07 := by
  have hend : Raise.endOfStream.cause ≠ .a07 := by decide
  exact cause_of_ite hend (cause_of_match _ _ (fun r h => by simp [maxBlockFault_cause h]) (cause_of_ite hend
    (cause_of_match _ _ (fun r h => by simp [channelCountFault_cause h]) hend)))

theorem neverIllegal_marker (b : BitSrc) : NeverIllegal (decodeMarkerElem b) := by
  unfold decodeMarkerElem
  split_ifs
  · exact neverIllegal_error (by decide)
  · exact neverIllegal_ok _
  · exact neverIllegal_error (by simp [Raise.gotOf])

theorem neverIllegal_codedNumber (b : BitSrc) : NeverIllegal (decodeCodedNumber b) := by
  unfold decodeCodedNumber
  split
  · exact neverIllegal_error (by decide)
  · simp only
    split_ifs
    · exact neverIllegal_ok _
    · exact neverIllegal_ok _
    all_goals exact neverIllegal_whole _ b _

theorem neverIllegal_subframeHdr (b : BitSrc) : NeverIllegal (decodeSubframeHdr b) := by
  unfold decodeSubframeHdr
  split_ifs
  · exact neverIllegal_error (by decide)
  · exact neverIllegal_ok _
  · exact neverIllegal_whole _ b _

theorem neverIllegal_residualHdr (b : BitSrc) : NeverIllegal (decodeResidualHdr b) := by
  unfold decodeResidualHdr
  split_ifs
  · exact neverIllegal_error (by decide)
  · exact neverIllegal_ok _
  · exact neverIllegal_ok _
  · exact neverIllegal_whole _ b _
  · exact neverIllegal_whole _ b _

/-- Reading an element never reports A07. -/
theorem neverIllegal_decodeElem (c : ElemCtx) (k : Kind) (b : BitSrc) : NeverIllegal (decodeElem c k b) := by
  cases k
  case marker => exact neverIllegal_marker b
  case framePreamble =>
    show NeverIllegal (decodePreamble b)
    unfold decodePreamble
    split_ifs
    · exact neverIllegal_ok _
    · exact neverIllegal_error (preambleViolation_cause b)
  case streaminfoBody =>
    show NeverIllegal (decodeStreaminfo c.capacity b)
    unfold decodeStreaminfo
    split_ifs
    · exact neverIllegal_ok _
    · exact neverIllegal_error (streaminfoViolation_cause _ b)
  case codedNumber => exact neverIllegal_codedNumber b
  case subframeHdr => exact neverIllegal_subframeHdr b
  case residualHdr => exact neverIllegal_residualHdr b
  case wastedUnary =>
    show NeverIllegal (decodeWastedUnary b)
    unfold decodeWastedUnary
    split
    · exact neverIllegal_error (by decide)
    · exact neverIllegal_ok _
  case riceWord =>
    show NeverIllegal (decodeRiceWord c.riceParam b)
    unfold decodeRiceWord
    split
    · exact neverIllegal_error (by decide)
    · exact neverIllegal_whole _ b _
  case verbatimBody | fixedBody | lpcBody => exact neverIllegal_ok _
  all_goals exact neverIllegal_whole _ b _

end Sys2Proof
end

section
/-! How a part of a command ends: `Ends I o` says that the answer `o` has taken no fault and `I` holds, or has taken a
fault that is not A07. `Marks A s t`: from `s` to `t` no cell but those in `A` became specified (R29). -/

namespace Sys2Proof.Machine

/-- The answer took no fault and has `I`, or took a fault other than A07, which is the commands' alone (R150). -/
def Ends (I : State → Prop) (o : Out) : Prop :=
  Post (fun t => (t.fault = true → t.faultCause ≠ .a07) ∧ (t.fault = false → I t)) o

/-- Cell `i` of channel `c` is specified (R29). -/
def State.Specified (s : State) (c i : Nat) : Prop := (lookupCell i (s.channel c)).isSome = true

/-- The cells of the channel being decoded below `F_BLOCKSIZE` are all in `A`. -/
def State.Covered (s : State) (A : Nat → Nat → Prop) : Prop :=
  ∀ c i, (c = 0 ↔ s.work.ch = 0) → i < s.blocksize → A c i

/-- From `s` to `t` the frame registers and the channel number stayed, specified cells stayed specified, and no cell
outside `A` became so. -/
structure Marks (A : Nat → Nat → Prop) (s t : State) : Prop where
  fr : t.fr = s.fr
  ch : t.work.ch = s.work.ch
  grows : ∀ c i, s.Specified c i → t.Specified c i
  within : ∀ c i, t.Specified c i → s.Specified c i ∨ A c i

/-! ## The rules of `Ends` -/

section
variable {I J : State → Prop} {s t : State} {o : Out}

theorem Ends.next (hl : t.fault = false) (h : I t) : Ends I (.next t) :=
  (post_next _ _).2 ⟨fun h' => by simp [hl] at h', fun _ => h⟩

theorem Ends.raise {r : Raise} (s : State) (h : r.cause ≠ .a07) : Ends I (raise r s) :=
  post_raise r s ⟨fun _ => h, fun h' => by cases h'⟩

theorem Ends.mono (h : Ends I o) (hij : ∀ t, t.fault = false → I t → J t) : Ends J o :=
  Post.mono h fun t ⟨hc, hi⟩ => ⟨hc, fun hl => hij t hl (hi hl)⟩

/-- What holds where no fault was taken may be added. -/
theorem Ends.and (h : Ends I o) (hq : Post (fun t => t.fault = false → J t) o) : Ends (fun t => I t ∧ J t) o :=
  fun t ht => ⟨(h t ht).1, fun hl => ⟨(h t ht).2 hl, hq t ht hl⟩⟩

theorem Ends.seq {f : State → Out} (ho : Ends I o) (hf : ∀ t, t.fault = false → I t → Ends J (f t)) :
    Ends J (seq o f) :=
  post_seq ho (fun t ht hl => ⟨ht.1, fun h => by simp [hl] at h⟩) fun t ht hl => hf t hl (ht.2 hl)

theorem Ends.live {f : State → Out} (hl : s.fault = false) (h : Ends I (f s)) : Ends I (live s f) := by
  rwa [live_ok f hl]

theorem Ends.consume {n : Nat} {f : State → Out} (h : Ends I (f (s.setBitpos (s.bitpos + n)))) :
    Ends I (consume n s f) := by
  by_cases hb : s.bitpos + n ≤ s.bitLength
  · rwa [consume_ok f hb]
  · rw [consume_short f (by omega)]
    exact .raise s (by decide)

theorem Ends.element {n : Nat} {f : State → Out} (hl : s.fault = false)
    (h : Ends I (f (s.setBitpos (s.bitpos + n)))) : Ends I (element n s f) := .live hl (.consume h)

theorem Ends.withUint {n : Nat} {f : Nat → State → Out} (h : ∀ v q, Ends I (f v (s.setBitpos q))) :
    Ends I (withUint n s f) := by
  unfold Machine.withUint
  split
  · exact h 0 s.bitpos
  · exact .consume (h _ _)

theorem Ends.withInt {n : Nat} {f : Int → State → Out} (h : ∀ v q, Ends I (f v (s.setBitpos q))) :
    Ends I (withInt n s f) := .withUint fun _ q => h _ q

/-- A loop: each round takes `I i` to `I (i + 1)`. -/
theorem Ends.forRange {I : Nat → State → Prop} {f : Nat → State → Out} (count start : Nat) (s : State)
    (hl : s.fault = false) (h : I start s)
    (hf : ∀ i t, start ≤ i → i < start + count → t.fault = false → I i t → Ends (I (i + 1)) (f i t)) :
    Ends (I (start + count)) (forRange count start f s) := by
  induction count generalizing start s with
  | zero => exact .next hl h
  | succ count ih =>
    rw [forRange_succ]
    refine .seq (hf start s (le_refl _) (by omega) hl h) fun t htl ht => ?_
    have hrest := ih (start + 1) t htl ht fun i u h₁ h₂ => hf i u (by omega) (by omega)
    rwa [show start + 1 + count = start + (count + 1) by omega] at hrest

end

/-! ## Marks -/

section
variable {A : Nat → Nat → Prop} {s t u : State} {o : Out}

theorem Marks.blocksize (h : Marks A s t) : t.blocksize = s.blocksize := by rw [State.blocksize, h.fr]; rfl

theorem Marks.covered (h : Marks A s t) (hA : s.Covered A) : t.Covered A := by
  rw [State.Covered, h.ch, h.blocksize]
  exact hA

/-- An update of neither a cell nor a frame register. -/
theorem Marks.of_cells (hfr : t.fr = s.fr) (hch : t.work.ch = s.work.ch) (h0 : t.sb0 = s.sb0) (h1 : t.sb1 = s.sb1) :
    Marks A s t := by
  have hspec : ∀ c i, t.Specified c i ↔ s.Specified c i := fun c i => by
    rw [State.Specified, State.channel, h0, h1]
    rfl
  exact ⟨hfr, hch, fun c i => (hspec c i).2, fun c i h => .inl ((hspec c i).1 h)⟩

theorem Marks.refl (s : State) : Marks A s s := .of_cells rfl rfl rfl rfl

theorem Marks.trans (h₁ : Marks A s t) (h₂ : Marks A t u) : Marks A s u where
  fr := h₂.fr.trans h₁.fr
  ch := h₂.ch.trans h₁.ch
  grows c i h := h₂.grows c i (h₁.grows c i h)
  within c i h := (h₂.within c i h).elim (h₁.within c i) .inr

/-- A part that starts where an earlier part got to. -/
theorem Ends.after (hm : Marks A s t) (h : Ends (Marks A t) o) : Ends (Marks A s) o := h.mono fun _ _ => hm.trans

/-- Two parts in a row, of the first of which `Q` is known. -/
theorem Ends.then {Q : State → Prop} {f : State → Out} (ho : Ends (fun t => Marks A s t ∧ Q t) o)
    (hf : ∀ t, t.fault = false → Marks A s t → Q t → Ends (Marks A t) (f t)) : Ends (Marks A s) (Machine.seq o f) :=
  .seq ho fun t hl ⟨hm, hq⟩ => .after hm (hf t hl hm hq)

theorem Ends.andThen {f : State → Out} (ho : Ends (Marks A s) o)
    (hf : ∀ t, t.fault = false → Marks A s t → Ends (Marks A t) (f t)) : Ends (Marks A s) (Machine.seq o f) :=
  .seq ho fun t hl hm => .after hm (hf t hl hm)

/-- A loop of which only the marks matter. -/
theorem Ends.marksLoop {f : Nat → State → Out} {count start : Nat} (hl : s.fault = false)
    (hf : ∀ i t, start ≤ i → i < start + count → t.fault = false → Marks A s t → Ends (Marks A t) (f i t)) :
    Ends (Marks A s) (Machine.forRange count start f s) :=
  .forRange (I := fun _ => Marks A s) count start s hl (.refl s) fun i t h₁ h₂ htl hm => .after hm (hf i t h₁ h₂ htl hm)

/-! ## Writes -/

/-- A write specifies its cell and no other. -/
theorem specified_insert (s : State) (c i : Nat) (v : Cell) (d j : Nat) :
    (s.setChannel c (insertCell i v (s.channel c))).Specified d j ↔ s.Specified d j ∨ (d = 0 ↔ c = 0) ∧ j = i := by
  unfold State.Specified
  by_cases hd : d = 0 ↔ c = 0
  · have hsame : ∀ u : State, u.channel d = u.channel c := fun u => by simp only [State.channel, hd]
    rw [hsame, hsame, State.channel_setChannel_same]
    by_cases hj : j = i
    · subst hj
      simp [hd]
    · rw [lookupCell_insertCell_other i j hj]
      simp [hj]
  · rw [State.channel_setChannel_other s c d _ (fun h => hd (by rw [h]))]
    simp [hd]

theorem writeSample_ends {c i : Nat} {v : Int} (hl : s.fault = false) (hA : ∀ d, (d = 0 ↔ c = 0) → A d i) :
    Ends (fun t => Marks A s t ∧ t.Specified c i) (writeSample c i v s) := by
  by_cases hi : i < s.capacity
  · rw [writeSample_ok hi]
    refine .next (by simpa using hl) ⟨⟨by simp, by simp, fun d j h => ?_, fun d j h => ?_⟩, ?_⟩
    · exact (specified_insert s c i _ d j).2 (.inl h)
    · rcases (specified_insert s c i _ d j).1 h with h | ⟨hd, rfl⟩
      · exact .inl h
      · exact .inr (hA d hd)
    · exact (specified_insert s c i _ c i).2 (.inr ⟨Iff.rfl, rfl⟩)
  · rw [writeSample_outside (by omega)]
    exact post_fault _ _

theorem writeI64_ends {c i : Nat} {v : Int} (hl : s.fault = false) (hA : ∀ d, (d = 0 ↔ c = 0) → A d i) :
    Ends (fun t => Marks A s t ∧ t.Specified c i) (writeI64 c i v s) := by
  unfold writeI64
  split
  · exact .raise s (by decide)
  · exact writeSample_ends hl hA

theorem Ends.marks {Q : State → Prop} (h : Ends (fun t => Marks A s t ∧ Q t) o) : Ends (Marks A s) o :=
  h.mono fun _ _ ⟨hm, _⟩ => hm

/-- A write to `x[i]` inside the block. -/
theorem writeX_ends {i : Nat} {v : Int} (hl : s.fault = false) (hA : s.Covered A) (hi : i < s.blocksize) :
    Ends (Marks A s) (writeX i v s) := (writeSample_ends hl fun d hd => hA d i hd hi).marks

theorem writeXI64_ends {i : Nat} {v : Int} (hl : s.fault = false) (hA : s.Covered A) (hi : i < s.blocksize) :
    Ends (fun t => Marks A s t ∧ t.Specified s.work.ch i) (writeXI64 i v s) :=
  writeI64_ends hl fun d hd => hA d i hd hi

end

end Sys2Proof.Machine
end

section
/-! The leaves of the stream grammar: which cells each makes specified, and that none takes A07. -/

namespace Sys2Proof.Machine

/-- What a leaf needs so that the cells it writes lie in `A`. -/
def cellsIn (A : Nat → Nat → Prop) (k : Kind) (s : State) : Prop :=
  match k with
  | .constantBody => s.Covered A
  | .rawResidual | .riceWord => s.Covered A ∧ s.work.index < s.blocksize
  | _ => True

section
variable {A : Nat → Nat → Prop} {s : State}

/-! ## The codes of the frame header -/

theorem blocksizeCode_ends (c : Nat) (hl : s.fault = false) : Ends (Marks A s) (blocksizeCode c s) := by
  unfold blocksizeCode
  cases hf : bsCodeFault c with
  | some r => exact .raise s (by simp [bsCodeFault_cause hf])
  | none => cases blocksizeOf c <;> exact .next hl (.of_cells rfl rfl rfl rfl)

theorem rateCode_ends (c : Nat) (hl : s.fault = false) : Ends (Marks A s) (rateCode c s) := by
  unfold rateCode withSiRate
  cases hf : srCodeFault c with
  | some r => exact .raise s (by simp [srCodeFault_cause hf])
  | none =>
    cases rateOf c with
    | streaminfo =>
      simp only
      split
      · exact .next hl (.of_cells rfl rfl rfl rfl)
      · exact .next hl (.of_cells rfl rfl rfl rfl)
    | hertz n => exact .next hl (.of_cells rfl rfl rfl rfl)
    | extension width scale => exact .next hl (.of_cells rfl rfl rfl rfl)

theorem channelCode_ends (c : Nat) (hl : s.fault = false) : Ends (Marks A s) (channelCode c s) := by
  unfold channelCode
  cases hf : caCodeFault c with
  | some r => exact .raise s (by rcases caCodeFault_cause hf with h | h <;> simp [h])
  | none => exact .next hl (.of_cells rfl rfl rfl rfl)

theorem sampleSizeCode_ends (c : Nat) (hl : s.fault = false) : Ends (Marks A s) (sampleSizeCode c s) := by
  unfold sampleSizeCode withSiBps
  cases hf : ssCodeFault c with
  | some r => exact .raise s (by simp [ssCodeFault_cause hf])
  | none =>
    cases sampleSizeOf c with
    | none =>
      simp only
      split
      · exact .next hl (.of_cells rfl rfl rfl rfl)
      · exact .next hl (.of_cells rfl rfl rfl rfl)
    | some n => exact .next hl (.of_cells rfl rfl rfl rfl)

theorem marks_setBitpos (s : State) (p : Nat) : Marks A s (s.setBitpos p) := .of_cells rfl rfl rfl rfl

/-- An element whose effect is a part of its own. -/
theorem element_marks {n : Nat} {f : State → Out} (hl : s.fault = false)
    (h : Ends (Marks A (s.setBitpos (s.bitpos + n))) (f (s.setBitpos (s.bitpos + n)))) :
    Ends (Marks A s) (element n s f) := .element hl (.after (marks_setBitpos s _) h)

theorem framePreamble_ends (strategy : Bool) (bs sr ca : BitVec 4) (ss : BitVec 3) (hl : s.fault = false) :
    Ends (Marks A s) (execFramePreamble strategy bs sr ca ss s) :=
  element_marks hl (.andThen (blocksizeCode_ends _ hl) fun _ h₁ _ => .andThen (rateCode_ends _ h₁) fun _ h₂ _ =>
    .andThen (channelCode_ends _ h₂) fun _ h₃ _ => sampleSizeCode_ends _ h₃)

/-! ## The other leaves -/

theorem streaminfoBody_ends_marks (minBlock maxBlock : BitVec 16) (minFrame maxFrame : BitVec 24) (rate : BitVec 20)
    (channelsMinus1 : BitVec 3) (bpsMinus1 : BitVec 5) (total : BitVec 36) (md5 : BitVec 128) (hl : s.fault = false) :
    Ends (Marks A s)
      (execStreaminfoBody minBlock maxBlock minFrame maxFrame rate channelsMinus1 bpsMinus1 total md5 s) := by
  refine .element hl ?_
  cases hb : maxBlockFault (s.setBitpos (s.bitpos + 272)).capacity maxBlock.toNat with
  | some r => exact .raise _ (by simp [maxBlockFault_cause hb])
  | none =>
    cases hc : channelCountFault (channelsMinus1.toNat + 1) with
    | some r => exact .raise _ (by simp [channelCountFault_cause hc])
    | none => exact .next hl (.of_cells rfl rfl rfl rfl)

theorem residualHeader_ends (method po : Nat) (hl : s.fault = false) :
    Ends (Marks A s) (residualHeader method po s) := by
  refine .element hl ?_
  simp only
  split
  · exact .raise _ (by simp [Raise.gotOf])
  · split
    · exact .raise _ (by simp [Raise.gotOf])
    · exact .next hl (.of_cells rfl rfl rfl rfl)

theorem storeResidual_ends {v : Int} (hl : s.fault = false) (hA : s.Covered A) (hi : s.work.index < s.blocksize) :
    Ends (Marks A s) (storeResidual v s) :=
  .andThen (writeXI64_ends hl hA hi).marks fun _ htl _ => .next htl (.of_cells rfl rfl rfl rfl)

theorem constantBody_ends {width : Nat} {v : Int} (hl : s.fault = false) (hA : s.Covered A) :
    Ends (Marks A s) (execConstantBody width v s) :=
  element_marks hl (.marksLoop hl fun i _ _ hi htl hm => writeX_ends htl (hm.covered hA) (by
    rw [hm.blocksize]
    simpa using hi))

/-- A leaf makes no cell specified but those that its kind writes, and takes no A07. -/
theorem execLeaf_ends {i : Instr} {k : Kind} (hk : i.kind? = some k) (hl : s.fault = false) (hA : cellsIn A k s) :
    Ends (Marks A s) (execLeaf i s) := by
  cases i
  case decodeMarker | decodeMetadata | decodeAudio | command3Unused | getUint | getInt | getByte | align | clz8 | eos
    | getUnary | skipBytes | verbatimBody | fixedBody | lpcBody => exact post_refused _ _
  case streaminfoBody md5 => exact streaminfoBody_ends_marks _ _ _ _ _ _ _ _ md5 hl
  case skippedBody => exact .live hl (.consume (.next hl (.of_cells rfl rfl rfl rfl)))
  case padding => exact .live (f := fun s => .next s.align) hl (.next hl (.of_cells rfl rfl rfl rfl))
  case framePreamble strategy _ _ _ _ => exact framePreamble_ends strategy _ _ _ _ hl
  case bsCode0 | bsCode1 | bsCode2 | bsCode3 | bsCode4 | bsCode5 | bsCode6 | bsCode7 | bsCode8 | bsCode9 | bsCode10
    | bsCode11 | bsCode12 | bsCode13 | bsCode14 | bsCode15 => exact element_marks hl (blocksizeCode_ends _ hl)
  case srCode0 | srCode1 | srCode2 | srCode3 | srCode4 | srCode5 | srCode6 | srCode7 | srCode8 | srCode9 | srCode10
    | srCode11 | srCode12 | srCode13 | srCode14 | srCode15 => exact element_marks hl (rateCode_ends _ hl)
  case caCode0 | caCode1 | caCode2 | caCode3 | caCode4 | caCode5 | caCode6 | caCode7 | caCode8 | caCode9 | caCode10
    | caCode11 | caCode12 | caCode13 | caCode14 | caCode15 => exact element_marks hl (channelCode_ends _ hl)
  case ssCode0 | ssCode1 | ssCode2 | ssCode3 | ssCode4 | ssCode5 | ssCode6 | ssCode7 =>
    exact element_marks hl (sampleSizeCode_ends _ hl)
  case subframeReserved2To3 | subframeReserved4To7 | subframeReserved13 | subframeReserved14To15
    | subframeReserved16To31 => exact .element hl (.raise _ (by simp [Raise.got]))
  case residualMethod0 | residualMethod1 => exact residualHeader_ends _ _ hl
  case residualMethod2 | residualMethod3 => exact .element hl (.raise _ (by decide))
  case constantBody =>
    cases hk
    exact constantBody_ends hl hA
  case rawResidual | riceWord =>
    cases hk
    obtain ⟨hA, hi⟩ := hA
    exact element_marks hl (storeResidual_ends hl hA hi)
  all_goals exact element_marks hl (.next hl (.of_cells rfl rfl rfl rfl))

/-- A leaf decoded and run; the decoder's own faults are none of A07. -/
theorem runLeaf_ends {k : Kind} (hl : s.fault = false) (hA : cellsIn A k s) : Ends (Marks A s) (runLeaf k s) := by
  refine .live hl ?_
  cases hd : s.decodeAt k with
  | error r => exact .raise s (neverIllegal_decodeElem _ k _ r hd)
  | ok i => exact execLeaf_ends (yields_decodeElem _ k _ i hd) hl hA

/-- A leaf with what its kind leaves in the working registers. -/
theorem plainLeaf_ends {k : Kind} (hp : k.isPlain = true) (hl : s.fault = false) :
    Ends (fun t => Marks A s t ∧ k.Leaves s t.work) (runLeaf k s) :=
  (runLeaf_ends hl (by cases k <;> trivial)).and (plainLeaf_runs (p := False) hp s).ensures

end

end Sys2Proof.Machine
end

section
/-! The bodies of a subframe, the subframe and the decorrelation: which cells each makes specified (R29, R159). -/

namespace Sys2Proof.Machine

section
variable {A : Nat → Nat → Prop} {s : State}

/-! ## Runs of samples -/

theorem readSamples_ends {count : Nat} (hl : s.fault = false) (hA : s.Covered A) (hc : count ≤ s.blocksize) :
    Ends (Marks A s) (readSamples count s) :=
  .marksLoop hl fun i t _ hi htl hm => .withInt fun v q => .after (marks_setBitpos t q) (writeX_ends htl (hm.covered hA)
    (by show i < t.blocksize; rw [hm.blocksize]; omega))

theorem restore_ends {order shift : Nat} {coefs : List Int} (hl : s.fault = false) (hA : s.Covered A)
    (ho : order ≤ s.blocksize) : Ends (Marks A s) (restore order coefs shift s) := by
  refine .marksLoop hl fun i t _ hi htl hm => ?_
  unfold restoreAt
  split
  · exact .raise t (by decide)
  · exact (writeXI64_ends htl (hm.covered hA) (by rw [hm.blocksize]; omega)).marks

/-! ## The residual -/

/-- `count` residuals go to the cells from `index` up; they leave the partition size. -/
theorem residuals_ends {k : Kind} (hk : k = .rawResidual ∨ k = .riceWord) (count : Nat) (hl : s.fault = false)
    (hA : s.Covered A) (hc : count = 0 ∨ s.work.index + count ≤ s.blocksize) :
    Ends (fun t => Marks A s t ∧ t.work.psize = s.work.psize) (residuals k count s) := by
  have hround : ∀ t : State, t.fault = false → t.Covered A → t.work.index < t.blocksize →
      Ends (fun u => Marks A t u ∧ u.work = { t.work with index := t.work.index + 1 }) (runLeaf k t) := by
    rcases hk with rfl | rfl
    · exact fun t htl htA hi => (runLeaf_ends (k := .rawResidual) htl ⟨htA, hi⟩).and
        (runLeaf_runs (p := False) (k := .rawResidual) rfl (by decide) False.elim).ensures
    · exact fun t htl htA hi => (runLeaf_ends (k := .riceWord) htl ⟨htA, hi⟩).and
        (runLeaf_runs (p := False) (k := .riceWord) rfl (by decide) False.elim).ensures
  refine (Ends.forRange (I := fun i t => Marks A s t ∧ t.work.index = s.work.index + i ∧ t.work.psize = s.work.psize)
    count 0 s hl ⟨.refl s, rfl, rfl⟩ fun i t _ hi htl ⟨hm, hindex, hpsize⟩ => ?_).mono fun t _ ⟨hm, _, h⟩ => ⟨hm, h⟩
  refine (hround t htl (hm.covered hA) (by rw [hindex, hm.blocksize]; omega)).mono fun u _ ⟨hmu, hu⟩ => ?_
  rw [hu]
  exact ⟨hm.trans hmu, by show t.work.index + 1 = _; omega, hpsize⟩

theorem partitionParam_ends (hl : s.fault = false) :
    Ends (fun t => Marks A s t ∧ ∃ v e, t.work = { s.work with param := v, escaped := e })
      (runLeaf (if s.work.method = 0 then .param4 else .param5) s) := by
  split
  · exact plainLeaf_ends (k := .param4) rfl hl
  · exact plainLeaf_ends (k := .param5) rfl hl

/-- A partition that ends within the block. -/
theorem partition_ends {order i : Nat} (hl : s.fault = false) (hA : s.Covered A)
    (hend : (i + 1) * s.work.psize ≤ s.blocksize) :
    Ends (fun t => Marks A s t ∧ t.work.psize = s.work.psize) (partition order i s) := by
  unfold partition
  generalize (if i = 0 then order else i * s.work.psize) = start
  let s₀ := s.setWork { s.work with index := start }
  have hm₀ : Marks A s s₀ := .of_cells rfl rfl rfl rfl
  refine .seq (partitionParam_ends (A := A) (s := s₀) hl) fun t htl ⟨hmt, v, e, ht⟩ => ?_
  have hbt : t.blocksize = s.blocksize := hmt.blocksize
  have hcells : ∀ u : State, u.blocksize = s.blocksize → u.work.index = start →
      (i + 1) * s.work.psize - start = 0 ∨ u.work.index + ((i + 1) * s.work.psize - start) ≤ u.blocksize :=
    fun u hbu hindex => by rw [hbu, hindex]; omega
  split
  · refine .seq (plainLeaf_ends (k := .escapeWidth) (A := A) rfl htl) fun u hul ⟨hmu, n, hu⟩ => ?_
    refine (residuals_ends (.inl rfl) _ hul (hmu.covered (hmt.covered hA))
      (hcells u (hmu.blocksize.trans hbt) (by rw [hu, ht]; rfl))).mono fun w _ ⟨hmw, hw⟩ => ?_
    exact ⟨hm₀.trans (hmt.trans (hmu.trans hmw)), by rw [hw, hu, ht]; rfl⟩
  · refine (residuals_ends (.inr rfl) _ htl (hmt.covered hA) (hcells t hbt (by rw [ht]; rfl))).mono fun w _ ⟨hmw, hw⟩ => ?_
    exact ⟨hm₀.trans (hmt.trans hmw), by rw [hw, ht]; rfl⟩

theorem decodeResidual_ends {order : Nat} (hl : s.fault = false) (hA : s.Covered A) :
    Ends (Marks A s) (decodeResidual order s) := by
  refine .then (plainLeaf_ends (k := .residualHdr) rfl hl) fun t htl hm hparts => ?_
  refine (Ends.forRange (I := fun _ u => Marks A t u ∧ u.work.psize = t.work.psize) t.work.pcount 0 t htl
    ⟨.refl t, rfl⟩ fun i u _ hi hul ⟨hmu, hsize⟩ => ?_).marks
  have hround : (i + 1) * t.work.psize ≤ t.work.pcount * t.work.psize := Nat.mul_le_mul_right _ (by omega)
  refine (partition_ends hul (hmu.covered (hm.covered hA)) ?_).mono fun v _ ⟨hmv, hv⟩ =>
    ⟨hmu.trans hmv, hv.trans hsize⟩
  rw [hsize, hmu.blocksize, hm.blocksize]
  exact hround.trans hparts

/-! ## FIXED and LPC -/

theorem checkOrder_ends (order : Nat) (hl : s.fault = false) :
    Ends (fun t => Marks A s t ∧ order ≤ t.blocksize) (checkOrder order s) := by
  unfold checkOrder
  split
  · exact .raise s (by simp [Raise.gotOf])
  · next h => exact .next hl ⟨.of_cells rfl rfl rfl rfl, not_lt.1 h⟩

theorem readLpcParams_ends (order : Nat) (hl : s.fault = false) : Ends (Marks A s) (readLpcParams order s) := by
  refine .withUint fun v q => .withInt fun shift q' => ?_
  simp only
  split
  · exact .raise _ (by simp [Raise.got])
  · refine .after ?_ (.marksLoop (by exact hl) fun j t _ _ htl _ => .withInt fun c q => ?_)
    · exact .of_cells rfl rfl rfl rfl
    · exact .next htl (.of_cells rfl rfl rfl rfl)

/-- Both predicted bodies begin with the order's check and the warmup. -/
theorem warmup_ends {order : Nat} {f : State → Out} (hl : s.fault = false) (hA : s.Covered A)
    (hf : ∀ t, t.fault = false → t.Covered A → order ≤ t.blocksize → Ends (Marks A t) (f t)) :
    Ends (Marks A s) (seq (checkOrder order s) fun s => seq (readSamples order s) f) :=
  .then (checkOrder_ends order hl) fun _ htl hm ho =>
    .andThen (readSamples_ends htl (hm.covered hA) ho) fun u hul hmu =>
      hf u hul (hmu.covered (hm.covered hA)) (by rwa [hmu.blocksize])

/-- Both end with the residual and the restoration. -/
theorem predicted_ends {order : Nat} {coefs : State → List Int} {shift : State → Nat} (hl : s.fault = false)
    (hA : s.Covered A) (ho : order ≤ s.blocksize) :
    Ends (Marks A s) (seq (decodeResidual order s) fun s => restore order (coefs s) (shift s) s) :=
  .andThen (decodeResidual_ends hl hA) fun _ htl hm => restore_ends htl (hm.covered hA) (by rwa [hm.blocksize])

theorem fixedBody_ends (order : Fin 5) (hl : s.fault = false) (hA : s.Covered A) :
    Ends (Marks A s) (execFixedBody order s) :=
  .live hl (warmup_ends hl hA fun _ htl htA ho =>
    predicted_ends (coefs := fun _ => fixedCoef order) (shift := fun _ => 0) htl htA ho)

theorem lpcBody_ends (orderMinus1 : BitVec 5) (hl : s.fault = false) (hA : s.Covered A) :
    Ends (Marks A s) (execLpcBody orderMinus1 s) :=
  .live hl (warmup_ends hl hA fun _ htl htA ho => .andThen (readLpcParams_ends _ htl) fun _ hul hmu =>
    predicted_ends (coefs := fun s => s.coefs _) (shift := fun s => s.lpcShift.toNat) hul (hmu.covered htA)
      (by rwa [hmu.blocksize]))

/-! ## A subframe -/

theorem wastedBits_ends (hl : s.fault = false) : Ends (Marks A s) (wastedBits s) := by
  unfold wastedBits
  split
  · exact runLeaf_ends hl trivial
  · exact .next hl (.refl s)

theorem effectiveWidth_ends (hl : s.fault = false) : Ends (Marks A s) (effectiveWidth s) := by
  unfold effectiveWidth
  simp only
  split
  · exact .raise s (by simp [Raise.got])
  · exact .next hl (.of_cells rfl rfl rfl rfl)

theorem subframeBody_ends (hl : s.fault = false) (hA : s.Covered A) : Ends (Marks A s) (subframeBody s) := by
  unfold subframeBody
  split_ifs
  · exact runLeaf_ends hl hA
  · exact .live hl (readSamples_ends hl hA (le_refl _))
  · exact fixedBody_ends _ hl hA
  · exact lpcBody_ends _ hl hA

/-- The shift writes every cell of the block, by 0 bits too, so it leaves the whole channel specified (R223). -/
theorem shiftWasted_ends (hl : s.fault = false) (hA : s.Covered A) :
    Ends (fun t => Marks A s t ∧ ∀ i, i < s.blocksize → t.Specified s.work.ch i) (shiftWasted s) := by
  have hloop := Ends.forRange (I := fun k t => Marks A s t ∧ ∀ i, i < k → t.Specified s.work.ch i)
    (f := fun i s => writeXI64 i (shl (s.x i) s.work.w) s) s.blocksize 0 s hl ⟨.refl s, fun _ h => by omega⟩
    fun k t _ hk htl ⟨hm, hdone⟩ => by
      refine (writeXI64_ends htl (hm.covered hA) (by rw [hm.blocksize]; omega)).mono fun u _ ⟨hmu, hu⟩ =>
        ⟨hm.trans hmu, fun i hi => ?_⟩
      rcases Nat.lt_succ_iff_lt_or_eq.1 hi with hlt | rfl
      · exact hmu.grows _ i (hdone i hlt)
      · rwa [hm.ch] at hu
  rwa [Nat.zero_add] at hloop

/-- A subframe makes the cells of its channel below `F_BLOCKSIZE` specified, and no other. -/
theorem decodeSubframe_ends (ch : Nat) (hl : s.fault = false) :
    Ends (fun t => t.fr = s.fr ∧
      ∀ c i, t.Specified c i ↔ s.Specified c i ∨ (c = 0 ↔ ch = 0) ∧ i < s.blocksize) (decodeSubframe ch s) := by
  let A : Nat → Nat → Prop := fun c i => (c = 0 ↔ ch = 0) ∧ i < s.blocksize
  let s₀ := s.setWork { s.work with ch := ch }
  have hA : s₀.Covered A := fun c i hc hi => ⟨hc, hi⟩
  unfold decodeSubframe
  refine .seq (runLeaf_ends (s := s₀) (A := A) (k := .subframeHdr) hl trivial) fun t₁ hl₁ hm₁ => ?_
  refine .seq (wastedBits_ends (A := A) hl₁) fun t₂ hl₂ hm₂ => ?_
  refine .seq (effectiveWidth_ends (A := A) hl₂) fun t₃ hl₃ hm₃ => ?_
  have hm : Marks A s₀ t₃ := hm₁.trans (hm₂.trans hm₃)
  refine .seq (subframeBody_ends hl₃ (hm.covered hA)) fun t₄ hl₄ hm₄ => ?_
  have hm' : Marks A s₀ t₄ := hm.trans hm₄
  refine (shiftWasted_ends hl₄ (hm'.covered hA)).mono fun t _ ⟨hmt, hall⟩ => ?_
  have hmst : Marks A s₀ t := hm'.trans hmt
  rw [hm'.ch, hm'.blocksize] at hall
  refine ⟨hmst.fr, fun c i => ⟨hmst.within c i, fun h => ?_⟩⟩
  rcases h with h | ⟨hc, hi⟩
  · exact hmst.grows c i h
  · have hsame : t.channel c = t.channel ch := by simp only [State.channel, hc]
    rw [State.Specified, hsame]
    exact hall i hi

/-! ## Decorrelation and the end of a frame -/

theorem midSideAt_ends {i : Nat} (hl : s.fault = false) (hA : ∀ d, A d i) : Ends (Marks A s) (midSideAt i s) := by
  unfold midSideAt
  simp only
  split
  · exact .raise s (by decide)
  · exact .andThen (writeSample_ends hl fun d _ => hA d).marks fun t htl _ => (writeI64_ends htl fun d _ => hA d).marks

/-- The decorrelation writes inside the block only, and nothing where the channels are independent (R271 to R274). -/
theorem decorrelate_ends (hl : s.fault = false)
    (hA : s.fr.chAssign.toNat ≠ 0 → ∀ d i, i < s.blocksize → A d i) : Ends (Marks A s) (decorrelate s) := by
  have hbound : ∀ {i : Nat}, i < 0 + s.blocksize → i < s.blocksize := fun h => by omega
  unfold decorrelate
  split
  case h_1 h => exact .marksLoop hl fun i t _ hi htl _ =>
    (writeI64_ends htl fun d _ => hA (by omega) d i (hbound hi)).marks
  case h_2 h => exact .marksLoop hl fun i t _ hi htl _ =>
    (writeI64_ends htl fun d _ => hA (by omega) d i (hbound hi)).marks
  case h_3 h => exact .marksLoop hl fun i t _ hi htl _ => midSideAt_ends htl fun d => hA (by omega) d i (hbound hi)
  case h_4 => exact .next hl (.refl s)

theorem frameEnd_ends (hl : s.fault = false) : Ends (Marks A s) (frameEnd s) :=
  .andThen (runLeaf_ends hl trivial) fun _ htl _ => runLeaf_ends htl trivial

/-! ## What follows the header -/

/-- The subframes make the active cells of their channels specified. -/
theorem subframes_ends {n : Nat} (hn : n ≤ 2) (hl : s.fault = false) (h0 : ∀ c i, ¬s.Specified c i) :
    Ends (fun t => t.fr = s.fr ∧ ∀ c i, c ≤ 1 → (t.Specified c i ↔ c < n ∧ i < s.blocksize))
      (forRange n 0 decodeSubframe s) := by
  have hloop := Ends.forRange (f := decodeSubframe)
    (I := fun k t => t.fr = s.fr ∧ ∀ c i, c ≤ 1 → (t.Specified c i ↔ c < k ∧ i < s.blocksize)) n 0 s hl
    ⟨rfl, fun c i _ => by simp [h0 c i]⟩ fun k t _ hk htl ⟨hfr, hspec⟩ => by
      have hb : t.blocksize = s.blocksize := by rw [State.blocksize, hfr]; rfl
      refine (decodeSubframe_ends k htl).mono fun u _ ⟨hfru, hu⟩ => ⟨hfru.trans hfr, fun c i hc => ?_⟩
      have hck : (c = 0 ↔ k = 0) ↔ c = k := by omega
      rw [hu, hspec c i hc, hb, hck, ← or_and_right, Nat.lt_succ_iff_lt_or_eq]
  rwa [Nat.zero_add] at hloop

/-- What follows the header leaves exactly the active cells specified, of a one-channel frame none of channel 1. -/
theorem frameBody_ends (hl : s.fault = false) (hn : s.fr.nch.toNat = channelsOf s.fr.chAssign.toNat) :
    Ends (fun t => t.fr = s.fr ∧ ∀ c i, c ≤ 1 → (t.Specified c i ↔ c < s.fr.nch.toNat ∧ i < s.blocksize))
      (frameBody s) := by
  have hn2 : s.fr.nch.toNat ≤ 2 := by rw [hn, channelsOf]; split <;> decide
  let A : Nat → Nat → Prop := fun _ i => s.fr.chAssign.toNat ≠ 0 ∧ i < s.blocksize
  refine .seq (subframes_ends (s := s.clearSamples) hn2 hl fun c i h => ?_) fun t htl ⟨hfr, hspec⟩ => ?_
  · unfold State.Specified State.channel at h
    split at h <;> cases h
  have hb : t.blocksize = s.blocksize := by rw [State.blocksize, hfr]; rfl
  refine .seq (decorrelate_ends (A := A) htl fun hca d i hi => ⟨by rwa [hfr] at hca, hb ▸ hi⟩) fun u hul hmu => ?_
  refine (frameEnd_ends (A := A) hul).mono fun v _ hmv => ?_
  have hm : Marks A t v := hmu.trans hmv
  refine ⟨hm.fr.trans hfr, fun c i hc => ⟨fun h => ?_, fun h => hm.grows c i ((hspec c i hc).2 h)⟩⟩
  rcases hm.within c i h with h | ⟨hca, hi⟩
  · exact (hspec c i hc).1 h
  · refine ⟨?_, hi⟩
    rw [hn, channelsOf, if_neg hca]
    omega

end

end Sys2Proof.Machine
end

section
/-! What `decode_audio` leaves behind a frame, and that no command in a legal state takes A07: O31 and O18. -/

namespace Sys2Proof.Machine

/-! ## The header -/

/-- The number of channels is that of the channel assignment (R115). -/
def ChannelsMatch (w : Work) : Prop := w.nch = channelsOf w.caCode.toNat

/-- The four codes of the preamble behind its bits, in stream order (R180). -/
def preambleCodes (bs sr ca : BitVec 4) (ss : BitVec 3) (s : State) : Out :=
  seq (blocksizeCode bs.toNat s) fun s =>
  seq (rateCode sr.toNat s) fun s =>
  seq (channelCode ca.toNat s) fun s =>
  sampleSizeCode ss.toNat s

section
variable {p : Prop} {s t : State}

theorem channelCode_matches {c : Nat} (hc : c < 16) (s : State) :
    Runs p s (fun t => ChannelsMatch t.work) (channelCode c s) := by
  unfold channelCode
  cases caCodeFault c with
  | some r => exact .raise r s
  | none =>
    refine .next (goes_setWork _ _) ?_
    show channelsOf c = channelsOf (BitVec.ofNat 4 c).toNat
    rw [BitVec.toNat_ofNat, Nat.mod_eq_of_lt hc]

theorem preambleCodes_matches (bs sr ca : BitVec 4) (ss : BitVec 3) (s : State) :
    Runs p s (fun t => ChannelsMatch t.work) (preambleCodes bs sr ca ss s) := by
  refine .seq (blocksizeCode_runs bs.isLt s) fun t₁ _ _ => .seq (rateCode_runs sr.toNat t₁) fun t₂ _ _ =>
    .seq (channelCode_matches ca.isLt t₂) fun t₃ _ hmatch => (sampleSizeCode_runs ss.toNat t₃).mono fun t₄ _ hss => ?_
  rw [hss]
  exact hmatch

/-- A preamble that was read: its 32 bits were there, and its codes went on behind them. -/
theorem runLeaf_framePreamble_ok (hf : s.fault = false) (h : runLeaf .framePreamble s = .next t)
    (ht : t.fault = false) :
    s.bitpos + 32 ≤ s.bitLength ∧ Goes (s.setBitpos (s.bitpos + 32)) t ∧ ChannelsMatch t.work := by
  have hfaulted : ∀ {r : Raise} {u : State}, raise r u = .next t → False := fun hr => by
    cases hr
    cases ht
  cases hd : s.decodeAt .framePreamble with
  | error r =>
    rw [runLeaf_error hf hd] at h
    exact (hfaulted h).elim
  | ok i =>
    rw [runLeaf_ok hf hd] at h
    have hk := yields_decodeElem _ _ _ i hd
    cases i <;> cases hk
    case framePreamble.refl strategy bs sr ca ss =>
      have helem : element 32 s (preambleCodes bs sr ca ss) = .next t := h
      by_cases hb : s.bitpos + 32 ≤ s.bitLength
      · rw [element_ok _ hf hb] at helem
        have hruns : Runs False _ _ _ := preambleCodes_matches bs sr ca ss (s.setBitpos (s.bitpos + 32))
        exact ⟨hb, hruns.goes helem ht, hruns.ensures t helem ht⟩
      · rw [element_short _ hf (not_le.1 hb)] at helem
        exact (hfaulted helem).elim

theorem blocksizeExtension_channels (s : State) :
    Runs p s (fun t => ∃ n, t.work = { s.work with blocksize := n }) (blocksizeExtension s) := by
  unfold blocksizeExtension
  split_ifs
  · exact (plainLeaf_runs (k := .blocksizeExt8) rfl s).mono fun t _ ⟨n, _, _, h⟩ => ⟨n, h⟩
  · exact (plainLeaf_runs (k := .blocksizeExt16) rfl s).mono fun t _ ⟨n, _, _, h⟩ => ⟨n, h⟩
  · exact .next (.refl s) ⟨_, rfl⟩

/-- The elements behind the preamble. -/
def headerRest (s : State) : Out :=
  seq (runLeaf .codedNumber s) fun s =>
  seq (blocksizeExtension s) fun s =>
  seq (rateExtension s) fun s =>
  runLeaf .crc8 s

theorem headerFields_eq (s : State) : headerFields s = seq (runLeaf .framePreamble s) headerRest := rfl

/-- They keep the channel assignment and its number of channels. -/
theorem headerRest_matches (hs : ChannelsMatch s.work) :
    Runs p s (fun t => ChannelsMatch t.work) (headerRest s) := by
  refine .seq (plainLeaf_runs (k := .codedNumber) rfl s) fun t₁ _ (h₁ : t₁.work = s.work) => ?_
  refine .seq (blocksizeExtension_channels t₁) fun t₂ _ ⟨n, h₂⟩ => ?_
  refine .seq (rateExtension_runs t₂) fun t₃ _ ⟨r, h₃⟩ => ?_
  refine (plainLeaf_runs (k := .crc8) rfl t₃).mono fun t₄ _ (h₄ : t₄.work = t₃.work) => ?_
  rw [h₄, h₃, h₂, h₁]
  exact hs

/-- A header that was read has moved `BITPOS` on, and its channel count is that of its channel assignment. -/
theorem headerFields_ok (hf : s.fault = false) (h : headerFields s = .next t) (ht : t.fault = false) :
    s.bitpos < t.bitpos ∧ t.bitpos ≤ t.bitLength ∧ ChannelsMatch t.work := by
  rw [headerFields_eq] at h
  obtain ⟨u, hu, hul, hrest⟩ := seq_eq_next_ok h ht
  obtain ⟨hb, hgoes, hmatch⟩ := runLeaf_framePreamble_ok hf hu hul
  have hruns : Runs False u _ _ := headerRest_matches hmatch
  have hall : Goes (s.setBitpos (s.bitpos + 32)) t := hgoes.trans (hruns.goes hrest ht)
  obtain ⟨hlo, hhi⟩ := hall.bitpos_mono hb
  have hlo' : s.bitpos + 32 ≤ t.bitpos := hlo
  exact ⟨by omega, hall.bitLength ▸ hhi, hruns.ensures t hrest ht⟩

/-- Frame registers that were written are legal, with the channel count of their channel assignment. -/
theorem writeFrameRegs_ok (hready : HeaderReady s.work) (hmatch : ChannelsMatch s.work)
    (h : writeFrameRegs s = .next t) (ht : t.fault = false) :
    ∃ f, t = s.setFrameRegs f ∧ FrameRegs.legal s.capacity f ∧ f.nch.toNat = channelsOf f.chAssign.toNat := by
  rcases writeFrameRegs_cases hready with ⟨r, hr⟩ | ⟨f, hf, hw⟩
  · rw [hr] at h
    cases h
    cases ht
  have htf : t = s.setFrameRegs f := by
    rw [hw] at h
    cases h
    rfl
  refine ⟨f, htf, hf, ?_⟩
  obtain ⟨-, -, -, hn⟩ := hready
  have hcount : t.fr.nch.toNat = channelsOf t.fr.chAssign.toNat := by
    unfold writeFrameRegs at h
    split at h
    · cases h
      cases ht
    · cases h
      show (BitVec.ofNat 2 s.work.nch).toNat = channelsOf s.work.caCode.toNat
      rw [BitVec.toNat_ofNat, Nat.mod_eq_of_lt (by omega)]
      exact hmatch
  rwa [htf] at hcount

/-! ## The frame -/

/-- A frame that was decoded: the header's elements, its registers, and what follows them. -/
theorem decodeFrame_parts (hf : s.fault = false) (h : decodeFrame s = .next t) (ht : t.fault = false) :
    ∃ u f, Goes s u ∧ u.fault = false ∧ s.bitpos < u.bitpos ∧ u.bitpos ≤ u.bitLength ∧
      FrameRegs.legal u.capacity f ∧ f.nch.toNat = channelsOf f.chAssign.toNat ∧
      frameBody (u.setFrameRegs f) = .next t := by
  rw [decodeFrame_eq] at h
  have hfields : Runs False s _ _ := headerFields_runs s
  obtain ⟨u, hu, hul, hrest⟩ := seq_eq_next_ok h ht
  obtain ⟨hlt, hle, hmatch⟩ := headerFields_ok hf hu hul
  obtain ⟨v, hv, hvl, hbody⟩ := seq_eq_next_ok hrest ht
  obtain ⟨f, rfl, hlegal, hcount⟩ := writeFrameRegs_ok (hfields.ensures u hu hul) hmatch hv hvl
  exact ⟨u, f, hfields.goes hu hul, hul, hlt, hle, hlegal, hcount, hbody⟩

/-- Around the frame registers a frame leaves everything else outside the buffer as it was. -/
theorem keeps_around_frameRegs {u : State} {f : FrameRegs} (h₁ : Goes s u) (h₂ : Goes (u.setFrameRegs f) t) :
    t.decState = s.decState ∧ t.si = s.si ∧ t.siValid = s.siValid ∧ t.stream = s.stream ∧ t.capacity = s.capacity ∧
      t.port = s.port ∧ t.result = s.result := by
  rw [h₂.frame, h₁.frame]
  exact ⟨rfl, rfl, rfl, rfl, rfl, rfl, rfl⟩

/-- A channel without a specified cell is the empty list. -/
theorem channel_eq_nil {c : Nat} (h : ∀ i, ¬s.Specified c i) : s.channel c = [] := by
  cases hm : s.channel c with
  | nil => rfl
  | cons e rest => exact absurd (by simp [State.Specified, hm, lookupCell]) (h e.1)

end

/-- Settles O31: the frame's parts keep everything but `BITPOS`, `F_*` and the cells (`Goes`); the cells are those that
`frameBody_ends` names. -/
theorem decodedFrameLeaves : Obligations.DecodedFrameLeaves := by
  intro s t hf hstate he h ht
  obtain ⟨v, hv, hvl, rfl⟩ := execDecodeAudio_frame he h ht
  obtain ⟨u, f, hgoes, hul, hlt, hle, hlegal, hcount, hbody⟩ := decodeFrame_parts (s := s.setFrValid false) hf hv hvl
  obtain ⟨hrest, halign⟩ := frameBody_ok hbody hvl
  obtain ⟨hmono, hend⟩ := hrest.bitpos_mono hle
  obtain ⟨hd, hsi, hvalid, hstream, hcapacity, hport, hresult⟩ := keeps_around_frameRegs hgoes hrest
  obtain ⟨hfr, hcells⟩ := (frameBody_ends (s := u.setFrameRegs f) hul hcount v hbody).2 hvl
  have hcap : v.capacity = u.capacity := hrest.capacity
  have hvf : v.fr = f := hfr
  have hnch : f.nch.toNat ≤ 2 := by rw [hcount, channelsOf]; split <;> decide
  refine ⟨rfl, hd, hlt.trans_le hmono, halign, hrest.bitLength ▸ hend, hsi, hvalid, hstream, hcapacity, hport, hresult,
    ?_, ?_⟩
  · show FrameRegs.legal v.capacity v.fr
    rw [hvf, hcap]
    exact hlegal
  show (∀ c i, c < v.fr.nch.toNat → (v.Specified c i ↔ i < v.fr.blocksize.toNat)) ∧ (v.fr.nch.toNat = 1 → v.sb1 = [])
  rw [hvf]
  refine ⟨fun c i hc => ?_, fun hone => channel_eq_nil (s := v) (c := 1) fun i hi => ?_⟩
  · exact (hcells c i (by omega)).trans ⟨fun ⟨_, hi⟩ => hi, fun hi => ⟨hc, hi⟩⟩
  · obtain ⟨hlt1, -⟩ := (hcells 1 i (le_refl 1)).1 hi
    exact hlt1.not_ge hone.le

/-! ## A07 -/

section
variable {s : State}

/-- Taking a fault other than A07, or none. -/
theorem Ends.cause {I : State → Prop} {o : Out} {t : State} (h : Ends I o) (ho : o = .next t) (ht : t.fault = true) :
    t.faultCause ≠ .a07 := (h t ho).1 ht

theorem Ends.any {I : State → Prop} {o : Out} (h : Ends I o) : Ends (fun _ => True) o := h.mono fun _ _ _ => trivial

/-- A leaf that writes no cell. -/
theorem runLeaf_ends_any {k : Kind} (hl : s.fault = false) (hA : cellsIn (fun _ _ => True) k s) :
    Ends (fun _ => True) (runLeaf k s) := (runLeaf_ends hl hA).any

theorem decodeMarker_ends (hl : s.fault = false) :
    Ends (fun _ => True) (seq (runLeaf .marker s) fun t => .next (t.setDecState .hasMarker).finish) :=
  .seq (runLeaf_ends_any hl trivial) fun _ htl _ => .next htl trivial

theorem metadataBody_ends (hl : s.fault = false) : Ends (fun _ => True) (metadataBody s) := by
  unfold metadataBody
  split
  · exact runLeaf_ends_any hl trivial
  · exact runLeaf_ends_any hl trivial

theorem metadataReturn_ends (hl : s.fault = false) : Ends (fun _ => True) (metadataReturn s) := by
  unfold metadataReturn
  split
  · exact .next hl trivial
  · exact .next hl trivial

theorem decodeMetadata_ends (hl : s.fault = false) :
    Ends (fun _ => True) (seq (runLeaf .metaHdr s) fun t => seq (metadataBody t) metadataReturn) :=
  .seq (runLeaf_ends_any hl trivial) fun _ htl _ => .seq (metadataBody_ends htl) fun _ hul _ => metadataReturn_ends hul

theorem blocksizeExtension_ends (hl : s.fault = false) : Ends (fun _ => True) (blocksizeExtension s) := by
  unfold blocksizeExtension
  split_ifs
  · exact runLeaf_ends_any hl trivial
  · exact runLeaf_ends_any hl trivial
  · exact .next hl trivial

theorem rateExtension_ends (hl : s.fault = false) : Ends (fun _ => True) (rateExtension s) := by
  unfold rateExtension
  split_ifs
  · exact runLeaf_ends_any hl trivial
  · exact runLeaf_ends_any hl trivial
  · exact runLeaf_ends_any hl trivial
  · exact .next hl trivial

theorem headerFields_ends (hl : s.fault = false) : Ends (fun _ => True) (headerFields s) :=
  .seq (runLeaf_ends_any hl trivial) fun _ h₁ _ => .seq (runLeaf_ends_any h₁ trivial) fun _ h₂ _ =>
    .seq (blocksizeExtension_ends h₂) fun _ h₃ _ => .seq (rateExtension_ends h₃) fun _ h₄ _ =>
      runLeaf_ends_any h₄ trivial

theorem writeFrameRegs_ends (hl : s.fault = false) : Ends (fun _ => True) (writeFrameRegs s) := by
  unfold writeFrameRegs
  split
  · exact .raise s (by simp [Raise.gotOf])
  · exact .next hl trivial

/-- The subframes are at most two, by the header's channel assignment, so every write of a frame is inside it. -/
theorem decodeFrame_ends (hl : s.fault = false) : Ends (fun _ => True) (decodeFrame s) := by
  have hfields : Runs False s _ _ := headerFields_runs s
  rw [decodeFrame_eq]
  refine .seq ((headerFields_ends hl).and fun u hu hul => And.intro (hfields.ensures u hu hul) (headerFields_ok hl hu hul))
    fun u hul ⟨_, hready, _, _, hmatch⟩ => ?_
  refine .seq ((writeFrameRegs_ends hul).and fun v hv hvl => writeFrameRegs_ok hready hmatch hv hvl)
    fun v hvl ⟨_, f, hvf, _, hcount⟩ => ?_
  subst hvf
  exact (frameBody_ends hvl hcount).any

/-- `decode_audio` behind `F_VALID = 0` (R158). -/
def audioBody (s : State) : Out :=
  if s.eos then .next (s.setDecState .complete).finish
  else seq (decodeFrame s) fun t => .next (t.setFrValid true).finish

theorem execDecodeAudio_eq (hf : s.fault = false) (hc : legal .decodeAudio s.decState = true) :
    exec .decodeAudio s = audioBody (s.setFrValid false) := by
  show execDecodeAudio s = _
  rw [execDecodeAudio, command_eq_body _ hf hc]
  rfl

theorem decodeAudio_ends (hl : s.fault = false) : Ends (fun _ => True) (audioBody s) := by
  unfold audioBody
  split
  · exact .next hl trivial
  · exact .seq (decodeFrame_ends hl) fun _ htl _ => .next htl trivial

end

/-- Settles O18: the guard of every command (`command`), and bodies that never take A07 (`Ends`). -/
theorem illegalCommandIsGuarded : Obligations.IllegalCommandIsGuarded := by
  intro s
  refine ⟨fun hf i hi => exec_of_fault (by rintro rfl; simp at hi) hf, fun hf => ⟨fun hd => ?_, fun hd => ?_, fun hd => ?_,
    fun t ht => ⟨fun hd h => ?_, fun hd h => ?_, fun hd h => ?_⟩⟩⟩
  · show execDecodeMarker s = raiseIllegal .decodeMarker s
    rw [execDecodeMarker, command_eq_illegal _ hf (by simp [legal, hd])]
  · show execDecodeMetadata s = raiseIllegal .decodeMetadata s
    rw [execDecodeMetadata, command_eq_illegal _ hf (by simp [legal, hd])]
  · show execDecodeAudio s = raiseIllegal .decodeAudio s
    rw [execDecodeAudio, command_eq_illegal _ hf (by rcases hd with hd | hd <;> simp [legal, hd])]
  · rw [execDecodeMarker_eq hf hd] at h
    exact (decodeMarker_ends hf).cause h ht
  · rw [execDecodeMetadata_eq hf hd] at h
    exact (decodeMetadata_ends hf).cause h ht
  · rw [execDecodeAudio_eq hf (by rcases hd with hd | hd <;> simp [legal, hd])] at h
    exact (decodeAudio_ends (s := s.setFrValid false) hf).cause h ht

end Sys2Proof.Machine
end

section
/-! Every run ends: O25. Each command of the driver either ends the run or consumes octets. -/

namespace Sys2Proof.Machine

/-- A run that goes on: no fault, not `COMPLETE`, at an octet boundary of the stream. -/
structure State.Running (s : State) : Prop where
  live : s.fault = false
  incomplete : s.decState ≠ .complete
  within : s.bitpos ≤ s.bitLength
  aligned : s.bitpos % 8 = 0

/-- The run is over: completed with the whole stream consumed (R340), or failed (R341). -/
def State.Over (s : State) : Prop := s.Completed ∧ s.bitpos = s.bitLength ∨ s.Failed

/-- A command of the driver that succeeded: the stream is consumed and the run complete, or `BITPOS` moved on. -/
def State.Advances (s t : State) : Prop :=
  (t.decState = .complete ∧ t.bitpos = s.bitLength) ∨ (t.decState ≠ .complete ∧ s.bitpos < t.bitpos)

section
variable {s t : State}

theorem decodeMarker_advances (hf : s.fault = false) (hstate : s.decState = .init)
    (h : exec .decodeMarker s = .next t) (ht : t.fault = false) : s.Advances t := by
  have hfaults : ∀ {r}, ¬FaultsWith (exec .decodeMarker s) s r := fun hr => by
    simpa [ht] using hr.fault_of_next h
  obtain ⟨hmarker, hother, hcut⟩ := decodeMarkerChecksTheMarker s hf hstate
  by_cases hb : s.bitpos + 32 ≤ s.bitLength
  · by_cases hv : s.ahead 0 32 = 0x664C6143
    · obtain ⟨hpos, hd, -⟩ := (hmarker hb hv).of_next h
      exact .inr ⟨by simp [hd], by simp [hpos]⟩
    · exact (hfaults (hother hb hv)).elim
  · exact (hfaults (hcut (not_le.1 hb))).elim

theorem decodeMetadata_advances (hf : s.fault = false) (hstate : s.decState = .hasMarker)
    (h : exec .decodeMetadata s = .next t) (ht : t.fault = false) : s.Advances t := by
  obtain ⟨hpos, hd⟩ := execDecodeMetadata_moves hf hstate h ht
  refine .inr ⟨?_, by omega⟩
  rw [hd]
  split <;> decide

theorem decodeAudio_advances (hf : s.fault = false) (hstate : s.decState = .hasMetadata)
    (h : exec .decodeAudio s = .next t) (ht : t.fault = false) : s.Advances t := by
  cases he : s.eos
  case true =>
    have hrun : exec .decodeAudio s = .next _ := execDecodeAudio_of_eos hf (by simp [legal, hstate]) he
    have hend : s.bitpos = s.bitLength := of_decide_eq_true he
    rw [hrun] at h
    cases h
    exact .inl ⟨rfl, hend⟩
  case false =>
    obtain ⟨-, hd, hpos, -⟩ := decodedFrameLeaves s t hf (.inl hstate) he h ht
    exact .inr ⟨by simp [hd, hstate], hpos⟩

/-- While a run goes on the driver has a command for it, which advances. -/
theorem State.Running.command (hs : s.Running) : ∃ n, driverCommand s = some (.command n) ∧
    decodeCommand n ∈ [Instr.decodeMarker, .decodeMetadata, .decodeAudio] ∧
    ∀ t, exec (decodeCommand n) (s.setPort []) = .next t → t.fault = false → s.Advances t := by
  obtain ⟨hf, hincomplete, -, -⟩ := hs
  cases hd : s.decState
  case init =>
    exact ⟨0, by simp [driverCommand, hf, hd], by decide, fun t => decodeMarker_advances (s := s.setPort []) hf hd⟩
  case hasMarker =>
    exact ⟨1, by simp [driverCommand, hf, hd], by decide, fun t => decodeMetadata_advances (s := s.setPort []) hf hd⟩
  case hasMetadata =>
    exact ⟨2, by simp [driverCommand, hf, hd], by decide, fun t => decodeAudio_advances (s := s.setPort []) hf hd⟩
  case complete => exact absurd hd hincomplete

/-- One round of the driver: the run is over, or goes on with octets consumed. -/
theorem State.Running.round (hs : s.Running) : ∃ r t, driverCommand s = some r ∧ step (s.setPort [r]) = .next t ∧
    (t.Over ∨ t.Running ∧ s.bitpos < t.bitpos ∧ t.bitLength = s.bitLength) := by
  obtain ⟨n, hn, hmem, hadvances⟩ := hs.command
  have hstep : step (s.setPort [.command n]) = exec (decodeCommand n) (s.setPort []) := step_command rfl
  obtain ⟨t, ht⟩ := everyCommandAnswers (s.setPort []) _ hmem
  refine ⟨.command n, t, hn, hstep.trans ht, ?_⟩
  cases hl : t.fault
  case true => exact .inl (.inr hl)
  case false =>
    have hforward : Forward (s.setPort []) t := exec_forward _ _ t ht
    have hlen : t.bitLength = s.bitLength := by rw [State.bitLength, hforward.stream]; rfl
    obtain ⟨-, hhi⟩ := hforward.bitpos hl hs.within
    rcases hadvances t ht hl with ⟨hd, hpos⟩ | ⟨hd, hpos⟩
    · exact .inl (.inl ⟨⟨hd, hl⟩, hpos.trans hlen.symm⟩)
    · exact .inr ⟨⟨hl, hd, hhi.trans_eq hlen.symm, decodeCommand_aligned ht hl hs.aligned⟩, hpos, hlen⟩

theorem driverCommand_of_over (hs : s.Over) : driverCommand s = none := by
  rcases hs with ⟨⟨hd, hf⟩, -⟩ | hf
  · simp [driverCommand, hf, hd]
  · exact if_pos hf

theorem drive_of_over (hs : s.Over) : ∀ fuel, drive fuel s = .next s
  | 0 => rfl
  | _ + 1 => by rw [drive, driverCommand_of_over hs]

theorem drive_succ {fuel : Nat} {r : Request} (hr : driverCommand s = some r) (hstep : step (s.setPort [r]) = .next t) :
    drive (fuel + 1) s = drive fuel t := by
  simp only [drive, hr, hstep]

/-- As many commands as octets are left, and one for the end of the stream, end the run. -/
theorem drive_ends (fuel : Nat) (hs : s.Running) (hfuel : s.bitLength < s.bitpos + 8 * fuel) :
    ∃ t, drive fuel s = .next t ∧ t.Over := by
  induction fuel generalizing s with
  | zero => exact absurd hs.within hfuel.not_ge
  | succ fuel ih =>
    obtain ⟨r, t, hr, hstep, hover | ⟨ht, hpos, hlen⟩⟩ := hs.round
    · exact ⟨t, (drive_succ hr hstep).trans (drive_of_over hover fuel), hover⟩
    · have hoctets : s.bitpos + 8 ≤ t.bitpos := by have := hs.aligned; have := ht.aligned; omega
      obtain ⟨u, hu, hover⟩ := ih ht (by omega)
      exact ⟨u, (drive_succ hr hstep).trans hu, hover⟩

end

theorem running_construct (stream : List Byte) (n : Nat) : (State.construct stream n).Running :=
  ⟨rfl, DecState.noConfusion, Nat.zero_le _, rfl⟩

/-- Settles O25: `drive_ends`, with the fuel the statement allows to spare. -/
theorem everyRunEnds : Obligations.EveryRunEnds := by
  intro stream n _
  have hlen : (State.construct stream n).bitLength = 8 * stream.length := rfl
  have hpos : (State.construct stream n).bitpos = 0 := rfl
  exact drive_ends _ (running_construct stream n) (by omega)

end Sys2Proof.Machine
end

section
/-! The header of a frame as the stream holds it: what each of its elements leaves when it takes no fault, and the frame
registers behind them (R95 to R99, R180, R187 to R193): O32. -/

namespace Sys2Proof.Machine

/-! ## A leaf that took no fault -/

section
variable {s t : State} {k : Kind} {n : Nat}

theorem raise_ne_next {r : Raise} (ht : t.fault = false) : raise r s ≠ .next t := fun h => by
  cases h
  cases ht

/-- A leaf that took no fault is the one its decoder found. -/
theorem decodeAt_of_runLeaf (hf : s.fault = false) (h : runLeaf k s = .next t) (ht : t.fault = false) :
    ∃ i, s.decodeAt k = .ok i ∧ execLeaf i s = .next t := by
  cases hd : s.decodeAt k with
  | error r =>
    rw [runLeaf_error hf hd] at h
    exact (raise_ne_next ht h).elim
  | ok i => exact ⟨i, rfl, (runLeaf_ok hf hd).symm.trans h⟩

/-- An element that took no fault had its bits. -/
theorem element_bound {f : State → Out} (hf : s.fault = false) (h : element n s f = .next t) (ht : t.fault = false) :
    s.bitpos + n ≤ s.bitLength := by
  by_contra hb
  rw [element_short f hf (not_le.1 hb)] at h
  exact raise_ne_next ht h

theorem src_bits_toNat (s : State) (off n : Nat) : (s.src.bits off n).toNat = s.ahead off n := BitSrc.toNat_bits

/-- A leaf that is one unsigned field and writes the working registers `w` of it has read the field ahead. -/
theorem readTo_of_fieldLeaf {mk : BitVec n → Instr} {w : Nat → Work → Work} (hf : s.fault = false)
    (hdecode : s.decodeAt k = whole n s.src (mk (s.src.bits 0 n)))
    (hexec : ∀ x, execLeaf (mk x) s = element n s fun u => .next (u.setWork (w x.toNat u.work)))
    (h : runLeaf k s = .next t) (ht : t.fault = false) : t = s.readTo n (w (s.ahead 0 n) s.work) := by
  obtain ⟨i, hd, hrun⟩ := decodeAt_of_runLeaf hf h ht
  obtain ⟨-, rfl⟩ := whole_eq_ok.1 (hdecode.symm.trans hd)
  rw [hexec, src_bits_toNat] at hrun
  exact Host.Outcome.next.inj (hrun.symm.trans (element_readTo hf (element_bound hf hrun ht) rfl))

end

/-! ## The elements of the header -/

section
variable {s t : State}

/-- A preamble that took no fault has four legal codes (R180). -/
theorem legalCodes_of_framePreamble {strategy : Bool} {bs sr ca : BitVec 4} {ss : BitVec 3} (hf : s.fault = false)
    (hb : s.bitpos + 32 ≤ s.bitLength) (h : execFramePreamble strategy bs sr ca ss s = .next t)
    (ht : t.fault = false) : bs ≠ 0 ∧ sr ≠ 15 ∧ ca.toNat ∈ [0, 1, 8, 9, 10] ∧ ss ≠ 3 := by
  have hfaults : ∀ {r}, ¬FaultsWith (exec (.framePreamble strategy bs sr ca ss) s) s r := fun hr => by
    have := hr.fault_of_next h
    simp [ht] at this
  obtain ⟨-, -, hp05, hp06, ha03, ha04, hp07⟩ := framePreambleElement s strategy bs sr ca ss hf hb
  have hbs : bs ≠ 0 := fun h0 => hfaults (hp05 h0)
  have hsr : sr ≠ 15 := fun h15 => hfaults (hp06 hbs h15)
  have hlt : ca.toNat < 11 := not_le.1 fun h11 => hfaults (ha03 hbs hsr h11)
  have hstereo : ¬(2 ≤ ca.toNat ∧ ca.toNat ≤ 7) := fun ⟨hlo, hhi⟩ => hfaults (ha04 hbs hsr hlo hhi)
  have hca : ca.toNat ∈ [0, 1, 8, 9, 10] := by simp only [List.mem_cons, List.not_mem_nil]; omega
  exact ⟨hbs, hsr, hca, fun h3 => hfaults (hp07 hbs hsr hca h3)⟩

/-- A preamble that was read leaves the table values of the codes ahead. -/
theorem framePreamble_reads (hf : s.fault = false) (h : runLeaf .framePreamble s = .next t) (ht : t.fault = false) :
    ∃ (si : StreamInfo) (d : Nat), (s.siValid = true → si = s.si) ∧
      t = { s with draw := d }.readTo 32
        (preambleWork s.work (s.src.bits 16 4) (s.src.bits 20 4) (s.src.bits 24 4) (s.src.bits 28 3) si) := by
  obtain ⟨hb, -⟩ := runLeaf_framePreamble_ok hf h ht
  obtain ⟨i, hd, hrun⟩ := decodeAt_of_runLeaf hf h ht
  have hdecode : decodePreamble s.src = .ok i := hd
  unfold decodePreamble at hdecode
  split_ifs at hdecode
  cases hdecode
  obtain ⟨hbs, hsr, hca, hss⟩ := legalCodes_of_framePreamble (strategy := s.src.flag 15) hf hb hrun ht
  obtain ⟨si, d, hsi, -, hlegal⟩ := framePreamble_legal (strategy := s.src.flag 15) hf hb hbs hsr hca hss
  exact ⟨si, d, hsi, Host.Outcome.next.inj (hrun.symm.trans hlegal)⟩

/-- A coded number that was read is as long as its first byte says (R96). -/
theorem codedNumber_reads (hf : s.fault = false) (h : runLeaf .codedNumber s = .next t) (ht : t.fault = false) :
    t = s.readTo (8 + 8 * codedFollowing (s.ahead 0 8)) s.work := by
  obtain ⟨i, hd, -⟩ := decodeAt_of_runLeaf hf h ht
  have hread := runLeaf_codedNumber hf (yields_codedNumber _ i hd) (holds_decoded_codedNumber hd)
  rw [length_decoded_codedNumber hd] at hread
  exact Host.Outcome.next.inj (h.symm.trans hread)

/-- The blocksize extension, if the code has one, gives the field ahead plus 1 (R97). -/
theorem blocksizeExtension_reads {bs : BitVec 4} (hf : s.fault = false) (hbs : s.work.bsCode = bs)
    (h : blocksizeExtension s = .next t) (ht : t.fault = false) :
    t = s.readTo (blocksizeExtWidth bs.toNat) { s.work with
      blocksize := if bs = 6 ∨ bs = 7 then s.ahead 0 (blocksizeExtWidth bs.toNat) + 1 else s.work.blocksize } := by
  unfold blocksizeExtension at h
  rw [hbs] at h
  split_ifs at h with h6 h7
  · subst h6
    exact readTo_of_fieldLeaf (mk := .blocksizeExt8) (w := fun v w => { w with blocksize := v + 1 }) hf rfl
      (fun _ => rfl) h ht
  · subst h7
    exact readTo_of_fieldLeaf (mk := .blocksizeExt16) (w := fun v w => { w with blocksize := v + 1 }) hf rfl
      (fun _ => rfl) h ht
  · have h6' : bs.toNat ≠ 6 := toNat_ne_of_ne h6
    have h7' : bs.toNat ≠ 7 := toNat_ne_of_ne h7
    have hwidth : blocksizeExtWidth bs.toNat = 0 := by rw [blocksizeExtWidth, if_neg h6', if_neg h7']
    rw [if_neg (not_or.2 ⟨h6, h7⟩), hwidth]
    exact (Host.Outcome.next.inj h).symm

/-- The rate extension, if the code has one, gives the rate of the field ahead (R98). -/
theorem rateExtension_reads {sr : BitVec 4} (hf : s.fault = false) (hsr : s.work.srCode = sr)
    (h : rateExtension s = .next t) (ht : t.fault = false) :
    t = s.readTo (rateExtWidth sr.toNat) { s.work with
      rate := extendedRate sr (s.ahead 0 (rateExtWidth sr.toNat)) s.work.rate } := by
  unfold rateExtension at h
  rw [hsr] at h
  unfold extendedRate
  split_ifs at h ⊢ with h12 h13 h14
  · subst h12
    exact readTo_of_fieldLeaf (mk := .rateExt8Khz) (w := fun v w => { w with rate := v * 1000 }) hf rfl
      (fun _ => rfl) h ht
  · subst h13
    exact readTo_of_fieldLeaf (mk := .rateExt16Hz) (w := fun v w => { w with rate := v * 1 }) hf rfl
      (fun _ => rfl) h ht
  · subst h14
    exact readTo_of_fieldLeaf (mk := .rateExt16Dhz) (w := fun v w => { w with rate := v * 10 }) hf rfl
      (fun _ => rfl) h ht
  · have h12' : sr.toNat ≠ 12 := toNat_ne_of_ne h12
    have h13' : sr.toNat ≠ 13 := toNat_ne_of_ne h13
    have h14' : sr.toNat ≠ 14 := toNat_ne_of_ne h14
    have hwidth : rateExtWidth sr.toNat = 0 := by rw [rateExtWidth, if_neg h12', if_neg (not_or.2 ⟨h13', h14'⟩)]
    rw [hwidth]
    exact (Host.Outcome.next.inj h).symm

end

/-! ## The header -/

/-- The working registers behind the header at `BITPOS`, `si` being what its codes 0 read (R180, R193). -/
def State.headerWork (s : State) (si : StreamInfo) : Work :=
  let w := preambleWork s.work (s.src.bits 16 4) (s.src.bits 20 4) (s.src.bits 24 4) (s.src.bits 28 3) si
  { w with
    blocksize := if s.src.bits 16 4 = 6 ∨ s.src.bits 16 4 = 7 then
      s.ahead s.headerExtOffset (blocksizeExtWidth (s.ahead 16 4)) + 1 else w.blocksize
    rate := extendedRate (s.src.bits 20 4) (s.ahead s.headerRateOffset (rateExtWidth (s.ahead 20 4))) w.rate }

section
variable {s t : State} {si : StreamInfo}

/-- The header's elements one after the other: each extension is read at its offset. -/
theorem headerFields_reads (hf : s.fault = false) (h : headerFields s = .next t) (ht : t.fault = false) :
    ∃ si, (s.siValid = true → si = s.si) ∧ t.work = s.headerWork si := by
  obtain ⟨u₁, h₁, hl₁, hrest⟩ := seq_eq_next_ok h ht
  obtain ⟨u₂, h₂, hl₂, hrest⟩ := seq_eq_next_ok hrest ht
  obtain ⟨u₃, h₃, hl₃, hrest⟩ := seq_eq_next_ok hrest ht
  obtain ⟨u₄, h₄, hl₄, h₅⟩ := seq_eq_next_ok hrest ht
  obtain ⟨si, d, hsi, e₁⟩ := framePreamble_reads hf h₁ hl₁
  have e₂ := codedNumber_reads hl₁ h₂ hl₂
  have e₃ := blocksizeExtension_reads (bs := s.src.bits 16 4) hl₂ (by rw [e₂, e₁]; rfl) h₃ hl₃
  have e₄ := rateExtension_reads (sr := s.src.bits 20 4) hl₃ (by rw [e₃, e₂, e₁]; rfl) h₄ hl₄
  have e₅ : t = u₄.readTo 8 u₄.work :=
    readTo_of_fieldLeaf (mk := .crc8) (w := fun _ w => w) hl₄ rfl (fun _ => rfl) h₅ ht
  have hahead₁ : ∀ off n, u₁.ahead off n = s.ahead (32 + off) n := fun off n => by
    rw [e₁]
    exact ahead_readTo _ _ _ _ _
  have hahead₂ : ∀ off n, u₂.ahead off n = s.ahead (s.headerExtOffset + off) n := fun off n => by
    rw [e₂, ahead_readTo, hahead₁, hahead₁, State.headerExtOffset, ← Nat.add_assoc, ← Nat.add_assoc]
  have hahead₃ : ∀ n, u₃.ahead 0 n = s.ahead s.headerRateOffset n := fun n => by
    rw [e₃, ahead_readTo, hahead₂, src_bits_toNat]
    rfl
  refine ⟨si, hsi, ?_⟩
  rw [e₅, State.readTo_work, e₄, State.readTo_work, hahead₃, e₃, State.readTo_work, hahead₂, e₂, State.readTo_work, e₁,
    State.readTo_work, src_bits_toNat, src_bits_toNat]
  rfl

/-! ## The frame registers -/

/-- The frame registers that the end of a header makes of the working registers (R193). -/
def frameRegsOf (w : Work) : FrameRegs where
  blocksize := BitVec.ofNat 17 w.blocksize
  rate := BitVec.ofNat 20 w.rate
  chAssign := w.caCode
  nch := BitVec.ofNat 2 w.nch
  bps := BitVec.ofNat 6 w.bps

/-- The frame registers of the header at `BITPOS`, `si` being what its codes 0 read. -/
def State.headerRegs (s : State) (si : StreamInfo) : FrameRegs := frameRegsOf (s.headerWork si)

theorem writeFrameRegs_writes (h : writeFrameRegs s = .next t) (ht : t.fault = false) :
    t = s.setFrameRegs (frameRegsOf s.work) := by
  unfold writeFrameRegs at h
  split_ifs at h
  · exact (raise_ne_next ht h).elim
  · exact (Host.Outcome.next.inj h).symm

theorem headerRegs_blocksize (s : State) (si : StreamInfo) :
    (s.headerRegs si).blocksize.toNat = s.headerBlocksize := by
  have hvalue : (s.headerWork si).blocksize = s.headerBlocksize := by
    rw [State.headerBlocksize, ← src_bits_toNat s 16 4, tableBlocksize_extended]
    show (if _ then _ else if _ then _ else _) = _
    split_ifs <;> simp only [src_bits_toNat]
  have hle : s.headerBlocksize ≤ 65536 := by
    rw [State.headerBlocksize, ← src_bits_toNat s 16 4]
    exact tableBlocksize_le (memRead_lt _ _ _)
  show (BitVec.ofNat 17 _).toNat = _
  rw [hvalue, BitVec.toNat_ofNat, Nat.mod_eq_of_lt (by omega)]

theorem headerRegs_rate (s : State) (si : StreamInfo) :
    (s.headerRegs si).rate.toNat = tableRate (s.ahead 20 4) si.rate.toNat
      (s.ahead s.headerRateOffset (rateExtWidth (s.ahead 20 4))) := by
  let ext := s.ahead s.headerRateOffset (rateExtWidth (s.ahead 20 4))
  have hvalue : (s.headerWork si).rate = tableRate (s.src.bits 20 4).toNat si.rate.toNat ext := by
    rw [tableRate_extended]
    exact extendedRate_preamble _ _ _ _
  have hext : ext < 2 ^ rateExtWidth (s.src.bits 20 4).toNat := by
    rw [src_bits_toNat]
    exact memRead_lt _ _ _
  have hlt : tableRate (s.src.bits 20 4).toNat si.rate.toNat ext < 2 ^ 20 := by
    rw [tableRate_extended]
    exact extendedRate_lt hext (tableRate_lt _ _)
  rw [src_bits_toNat] at hvalue hlt
  show (BitVec.ofNat 20 _).toNat = _
  rw [hvalue, BitVec.toNat_ofNat, Nat.mod_eq_of_lt hlt]

theorem headerRegs_chAssign (s : State) (si : StreamInfo) :
    (s.headerRegs si).chAssign.toNat = s.ahead 24 4 := src_bits_toNat s 24 4

theorem headerRegs_nch (s : State) (si : StreamInfo) :
    (s.headerRegs si).nch.toNat = if s.ahead 24 4 = 0 then 1 else 2 := by
  have hzero : s.ahead 24 4 = 0 ↔ s.src.bits 24 4 = 0 := by rw [← src_bits_toNat]; exact BitVec.toNat_inj (y := 0)
  show (BitVec.ofNat 2 (if _ then _ else _)).toNat = _
  simp only [hzero]
  split <;> rfl

theorem headerRegs_bps (s : State) (si : StreamInfo) :
    (s.headerRegs si).bps.toNat = tableBps (s.ahead 28 3) si.bps.toNat := by
  rw [← src_bits_toNat s 28 3]
  exact (BitVec.toNat_ofNat _ _).trans (Nat.mod_eq_of_lt (tableBps_lt _ _))

/-- A frame that was decoded keeps the frame registers of its header. -/
theorem decodeFrame_fr (hf : s.fault = false) (h : decodeFrame s = .next t) (ht : t.fault = false) :
    ∃ si, (s.siValid = true → si = s.si) ∧ t.fr = s.headerRegs si := by
  rw [decodeFrame_eq] at h
  obtain ⟨u, hu, hul, hrest⟩ := seq_eq_next_ok h ht
  obtain ⟨v, hv, hvl, hbody⟩ := seq_eq_next_ok hrest ht
  obtain ⟨si, hsi, hwork⟩ := headerFields_reads hf hu hul
  obtain ⟨hgoes, -⟩ := frameBody_ok hbody ht
  refine ⟨si, hsi, ?_⟩
  rw [hgoes.fr, writeFrameRegs_writes hv hvl, hwork]
  rfl

end

/-- Settles O32: what a code 0 reads is `SI_*` while `SI_VALID = 1`, and no other code's table value depends on it. -/
theorem frameRegistersFromTheHeader : Obligations.FrameRegistersFromTheHeader := by
  intro s t hf _ he h ht
  obtain ⟨v, hv, hvl, rfl⟩ := execDecodeAudio_frame he h ht
  obtain ⟨si, hsi, hfr⟩ := decodeFrame_fr (s := s.setFrValid false) hf hv hvl
  have hregs : ((v.setFrValid true).finish).fr = s.headerRegs si := hfr
  rw [hregs]
  refine ⟨headerRegs_blocksize s si, fun hcode => ?_, headerRegs_chAssign s si, headerRegs_nch s si, fun hcode => ?_⟩
  · rw [headerRegs_rate, State.headerRate]
    rcases hcode with h0 | hvalid
    · rw [tableRate_of_ne_zero h0, tableRate_of_ne_zero h0 s.si.rate.toNat]
    · rw [hsi hvalid]
      rfl
  · rw [headerRegs_bps]
    rcases hcode with h0 | hvalid
    · rw [tableBps_of_ne_zero h0, tableBps_of_ne_zero h0 s.si.bps.toNat]
    · rw [hsi hvalid]
      rfl

end Sys2Proof.Machine
end

section
/-! The width of a subframe's fields (R211 to R214): O46. -/

namespace Sys2Proof.Machine

/-- The side channel's extra bit, the codes as they stand in `F_CHASSIGN` (R211). -/
theorem sideExtra_toNat (ca : BitVec 4) (ch : Nat) :
    (sideExtra ca.toNat ch : Int) =
      if (ca = 8 ∧ ch = 1) ∨ (ca = 9 ∧ ch = 0) ∨ (ca = 10 ∧ ch = 1) then 1 else 0 := by
  simp [sideExtra, ← BitVec.toNat_inj, or_assoc]

/-- `bps_eff` before its range is checked (R211, R213). -/
def State.subframeWidth (s : State) : Int :=
  s.fr.bps.toNat + sideExtra s.fr.chAssign.toNat s.work.ch - s.work.w

section
variable {s : State}

theorem effectiveWidth_inRange (h1 : 1 ≤ s.subframeWidth) (h64 : s.subframeWidth ≤ 64) :
    effectiveWidth s = .next (s.setWork { s.work with bpsEff := s.subframeWidth.toNat }) :=
  if_neg (by simp only [Bool.or_eq_true, decide_eq_true_eq]; unfold State.subframeWidth at *; omega)

theorem effectiveWidth_outside (h : s.subframeWidth < 1 ∨ 64 < s.subframeWidth) :
    effectiveWidth s = raise (.got .p13 s.subframeWidth) s :=
  if_pos (by simp only [Bool.or_eq_true, decide_eq_true_eq]; exact h)

end

/-- Settles O46: the count is one element of `w + 1` bits, and the width is checked against both ends of R214's range. -/
theorem wastedBitsAndWidth : Obligations.WastedBitsAndWidth := by
  intro s hf
  refine ⟨fun w hb => element_ok (n := w + 1) _ hf hb, fun bps hbps => ?_⟩
  rw [← sideExtra_toNat] at hbps
  obtain rfl : bps = s.subframeWidth := hbps
  refine ⟨effectiveWidth_inRange, fun h => ?_⟩
  rw [effectiveWidth_outside h]
  exact raise_faults _ s

end Sys2Proof.Machine
end

section
/-! Loops over the cells of the channel: the CONSTANT body (R216), O47, and the wasted-bit shift (R223), O52. -/

namespace Sys2Proof.Machine

section
variable {s : State}

/-- A loop over the cells of a channel faults if a round does, the rounds before it writing their cells. -/
theorem cellLoop_faults {f : Nat → State → Out} {c count bad : Nat} {x : Nat → Int} {r : Raise} (hf : s.fault = false)
    (hbad : bad < count)
    (hstep : ∀ i u, i < count → u = { s with sb0 := u.sb0, sb1 := u.sb1 } → Writes s u c 0 i x →
      (i ≠ bad ∧ ∃ t, f i u = .next t ∧ t = { u with sb0 := t.sb0, sb1 := t.sb1 } ∧
        Writes u t c i (i + 1) fun _ => x i) ∨ FaultsWith (f i u) s r) :
    FaultsWith (forRange count 0 f s) s r :=
  forRange_faults (F := fun o => FaultsWith o s r) count 0 bad s (Nat.zero_le _) (by omega) (fun _ g h => h.seq g)
    (I := fun i u => u = { s with sb0 := u.sb0, sb1 := u.sb1 } ∧ Writes s u c 0 i x)
    (fun i u _ hi hul ⟨hu, hsofar⟩ => by
      refine (hstep i u (by omega) hu hsofar).imp_left fun ⟨hne, t, ht, hframe, hone⟩ => ?_
      refine ⟨hne, t, ht, by rw [hframe]; exact hul, by rw [hframe, hu],
        hsofar.append (hone.congr fun j _ _ => ?_) (by omega) (by omega)⟩
      obtain rfl : j = i := by omega
      rfl)
    hf ⟨rfl, Writes.none _ _ _ _⟩

/-- One value in every cell of the channel up to the blocksize. -/
theorem fillChannel_spec {v : Int} (hf : s.fault = false) (hch : s.work.ch ≤ 1) (hcap : s.blocksize ≤ s.capacity)
    (hv : inRange64 v = true) :
    ∃ t, forRange s.blocksize 0 (fun i s => writeX i v s) s = .next t ∧ t = { s with sb0 := t.sb0, sb1 := t.sb1 } ∧
      Writes s t s.work.ch 0 s.blocksize fun _ => v :=
  cellLoop_spec s hf fun i u hi hu _ => by
    have huch : u.work.ch = s.work.ch := by rw [hu]
    rw [writeX, huch]
    exact writeSample_spec hch (by rw [hu]; exact hi.trans_le hcap) hv

/-- One round of the wasted-bit shift, at a cell that the rounds before it left alone. -/
theorem shiftWasted_round {u : State} {i : Nat} {y : Nat → Int} (hch : s.work.ch ≤ 1)
    (hu : u = { s with sb0 := u.sb0, sb1 := u.sb1 }) (hsofar : Writes s u s.work.ch 0 i y) :
    writeXI64 i (shl (u.x i) u.work.w) u = writeI64 s.work.ch i (s.x i * 2 ^ s.work.w) u := by
  obtain ⟨-, hkeep⟩ := hsofar s.work.ch i hch
  have hwork : u.work = s.work := by rw [hu]
  have hx : u.x i = s.x i := by rw [State.x, hwork, State.sample, hkeep (.inr (.inr (le_refl _)))]; rfl
  rw [writeXI64, hwork, hx, shl]

/-- A product that leaves 64 bits is A06, whichever cell it is in (R223, R226). -/
theorem shiftWasted_overflow {bad : Nat} (hf : s.fault = false) (hch : s.work.ch ≤ 1) (hcap : s.blocksize ≤ s.capacity)
    (hbad : bad < s.blocksize) (hover : inRange64 (s.x bad * 2 ^ s.work.w) = false) :
    FaultsWith (shiftWasted s) s (.plain .a06) :=
  cellLoop_faults (c := s.work.ch) (x := fun i => s.x i * 2 ^ s.work.w) hf hbad fun i u hi hu hsofar => by
    rw [shiftWasted_round hch hu hsofar]
    by_cases hrange : inRange64 (s.x i * 2 ^ s.work.w) = true
    · refine .inl ⟨?_, writeI64_spec hch (by rw [hu]; exact hi.trans_le hcap) hrange⟩
      rintro rfl
      rw [hover] at hrange
      cases hrange
    · rw [writeI64_overflow (Bool.eq_false_iff.2 hrange), hu]
      exact .inr (faultsWith_raise rfl rfl rfl rfl rfl)

end

/-- Settles O47: the field is consumed, and `fillChannel_spec` says which cells hold its value. -/
theorem constantBodyFills : Obligations.ConstantBodyFills := by
  intro s width v hf hwf hch hcap
  refine ⟨fun hb => ?_, element_faults_short _ hf⟩
  simp only [Instr.WellFormed, Instr.wellFormed, Bool.and_eq_true, decide_eq_true_eq] at hwf
  obtain ⟨⟨-, h64⟩, hfits⟩ := hwf
  obtain ⟨t, ht, hframe, hwrites⟩ := fillChannel_spec (s := s.setBitpos (s.bitpos + width)) hf hch hcap
    (inRange64_of_fits h64 hfits)
  exact ⟨t, element_next hf hb ht, hframe, hwrites.of_same_cells (fun _ _ => rfl) fun _ _ => rfl⟩

/-- Settles O52: `shiftWasted_spec` where every product fits, `shiftWasted_overflow` at one that does not. -/
theorem wastedShiftMultiplies : Obligations.WastedShiftMultiplies := by
  intro s hf hch hcap
  refine ⟨fun hfits => shiftWasted_spec hf hch hcap fun i hi => ⟨rfl, (inRange64_iff _).2 (hfits i hi)⟩, ?_⟩
  rintro ⟨i, hi, hover⟩
  exact shiftWasted_overflow hf hch hcap hi ((inRange64_false_iff _).2 hover)

end Sys2Proof.Machine
end

section
/-! Runs of signed fields on any stream (R217, R218, R220), and the VERBATIM body: O48. -/

namespace Sys2Proof.Machine

/-- From `s` to `u` `i` signed fields were read into cells. -/
structure ReadFields (s : State) (i : Nat) (u : State) : Prop where
  reads : Reads (i * s.work.bpsEff) s u
  work : u.work = s.work

section
variable {s u : State} {i count : Nat}

theorem ReadFields.zero (s : State) : ReadFields s 0 s := ⟨(Reads.refl s).cast (Nat.zero_mul _).symm, rfl⟩

/-- One round of a run of fields, its field being there, whatever number stands for the channel. -/
theorem ReadFields.next (h : ReadFields s i u) (hi : i < s.capacity)
    (hb : s.bitpos + (i + 1) * s.work.bpsEff ≤ s.bitLength) :
    ∃ t, withInt u.work.bpsEff u (fun v s => writeX i v s) = .next t ∧ ReadFields s (i + 1) t := by
  obtain ⟨hread, hwork⟩ := h
  rw [Nat.succ_mul] at hb
  have hroom : u.bitpos + s.work.bpsEff ≤ u.bitLength := by rw [hread.bitpos, hread.bitLength]; omega
  have hcell : i < u.capacity := by rw [hread.capacity]; exact hi
  rw [hwork, withInt_ok _ hroom, writeX, writeSample_ok (by exact hcell)]
  refine ⟨_, rfl, (hread.trans (n := s.work.bpsEff) ⟨?_⟩).cast (Nat.succ_mul _ _).symm, by simpa using hwork⟩
  unfold State.setChannel
  split <;> rfl

/-- A fault behind bits read is a fault of the state before them. -/
theorem FaultsWith.of_reads {n : Nat} {o : Out} {r : Raise} (h : FaultsWith o u r) (hread : Reads n s u) :
    FaultsWith o s r := by
  rw [hread.frame] at h
  exact h

/-- One round of a run of fields, its field being cut short. -/
theorem ReadFields.cut (h : ReadFields s i u) (h1 : 1 ≤ s.work.bpsEff)
    (hb : s.bitLength < s.bitpos + (i + 1) * s.work.bpsEff) :
    FaultsWith (withInt u.work.bpsEff u (fun v s => writeX i v s)) s .endOfStream := by
  obtain ⟨hread, hwork⟩ := h
  rw [Nat.succ_mul] at hb
  exact (withUint_faults_short _ (by rw [hwork]; exact h1)
    (by rw [hread.bitpos, hread.bitLength, hwork]; omega)).of_reads hread

/-- A run of fields that are all there. -/
theorem readSamples_reads (hf : s.fault = false) (hcap : count ≤ s.capacity)
    (hb : s.bitpos + count * s.work.bpsEff ≤ s.bitLength) :
    ∃ t, readSamples count s = .next t ∧ ReadFields s count t := by
  obtain ⟨t, ht, -, hall⟩ := forRange_total (I := ReadFields s)
    (f := fun i s => withInt s.work.bpsEff s fun v s => writeX i v s) count 0 s
    (fun i u _ hi hul hsofar => by
      have hroom : (i + 1) * s.work.bpsEff ≤ count * s.work.bpsEff := Nat.mul_le_mul_right _ (by omega)
      obtain ⟨t, ht, hnext⟩ := hsofar.next (by omega) (by omega)
      exact ⟨t, ht, hnext.reads.fault.trans hf, hnext⟩)
    hf (.zero s)
  exact ⟨t, ht, Nat.zero_add count ▸ hall⟩

/-- A run of fields that the stream cuts short is P11 at the first field that is not whole (R77). -/
theorem readSamples_short (hf : s.fault = false) (hcap : count ≤ s.capacity) (h1 : 1 ≤ s.work.bpsEff)
    (hpos : s.bitpos ≤ s.bitLength) (hb : s.bitLength < s.bitpos + count * s.work.bpsEff) :
    FaultsWith (readSamples count s) s .endOfStream := by
  have hcut : s.bitLength - s.bitpos < ((s.bitLength - s.bitpos) / s.work.bpsEff + 1) * s.work.bpsEff :=
    Nat.mul_comm _ s.work.bpsEff ▸ Nat.lt_mul_div_succ _ h1
  refine forRange_faults (I := ReadFields s) (F := fun o => FaultsWith o s .endOfStream) count 0
    ((s.bitLength - s.bitpos) / s.work.bpsEff) s (Nat.zero_le _)
    (by rw [Nat.zero_add, Nat.div_lt_iff_lt_mul h1]; omega) (fun _ g h => h.seq g) (fun i u _ hi _ hsofar => ?_) hf
    (.zero s)
  by_cases hroom : s.bitpos + (i + 1) * s.work.bpsEff ≤ s.bitLength
  · obtain ⟨t, ht, hnext⟩ := hsofar.next (by omega) hroom
    refine .inl ⟨?_, t, ht, hnext.reads.fault.trans hf, hnext⟩
    rintro rfl
    omega
  · exact .inr (hsofar.cut h1 (by omega))

end

/-- Settles O48: `readSamples_spec` where all fields are there, `readSamples_short` where they are not. -/
theorem verbatimBodyReads : Obligations.VerbatimBodyReads := by
  intro s hf hch hcap h1 h64 hpos
  have hrun : exec .verbatimBody s = readSamples s.blocksize s := live_ok _ hf
  rw [hrun]
  refine ⟨fun hb => ?_, readSamples_short hf hcap h1 hpos⟩
  obtain ⟨t, ht, -, hframe, hwrites⟩ := readSamples_spec s.blocksize s hf hch hcap h64 hb
  exact ⟨t, ht, hframe, hwrites⟩

end Sys2Proof.Machine
end

section
/-! The predictors: FIXED and LPC bodies as written, O49 and O50, and their checks, O51 (R218 to R222). -/

namespace Sys2Proof.Machine

/-- Settles O49: `fixedBody_spec`, warmup, residual and restoration in a row. -/
theorem fixedBodyRestores : Obligations.FixedBodyRestores := by
  intro s order warmup residual y hf hch hcap _ h64 hp h
  obtain ⟨t, ht, hread, ⟨htch, htw, htb⟩, hwrites⟩ := fixedBody_spec hf hch hcap h64 hp h
  exact ⟨t, ht, hread.frame, htch, htw, htb, hwrites⟩

/-- What `HoldsCoefs` says of the coefficient file as a list. -/
theorem State.HoldsCoefs.getD_toList {s : State} {n : Nat} {coefs : List Int} (h : s.HoldsCoefs n coefs) {j : Nat}
    (hj : j < n) (h32 : j < 32) : (s.coef.toList.getD j 0).toInt = coefs.getD j 0 := by
  rw [← h ⟨j, h32⟩ hj, List.getD_eq_getElem _ _ (by simpa using h32)]
  simp

/-- Settles O50: `lpcBody_spec`, the coefficient file read as a list. -/
theorem lpcBodyRestores : Obligations.LpcBodyRestores := by
  intro s m warmup p shift coefs residual y hf hch hcap _ h64 hp h
  obtain ⟨t, ht, ⟨hdecodes, ⟨htch, htw, htb⟩, hwrites⟩, hprec, hshift, hcoefs⟩ := lpcBody_spec hf hch hcap h64 hp h
  obtain ⟨-, -, -, hclen, -⟩ := hp
  have hm := m.isLt
  exact ⟨t, ht, hdecodes.frame, htch, htw, htb, hprec, hshift, fun j hj => hcoefs.getD_toList (by omega) (by omega),
    hwrites⟩

section
variable {s : State} {order : Nat}

/-- An order above the blocksize is P12 (R222). -/
theorem checkOrder_faults (h : s.blocksize < order) :
    FaultsWith (checkOrder order s) s (.gotOf .p12 order s.blocksize) := by
  rw [checkOrder, if_pos h]
  exact raise_faults _ s

/-- A 5-bit field with its first bit set is negative (R131). -/
theorem sext_five_of_le {v : Nat} (hv : 16 ≤ v) : sext 5 v = v - 32 := if_neg hv.not_gt

/-- A negative shift is P14, the precision and the shift being read, whatever follows them (R220). -/
theorem readLpcParams_negative (hb : s.bitpos + 9 ≤ s.bitLength) (hneg : 16 ≤ s.ahead 4 5) :
    FaultsWith (readLpcParams order s) s (.got .p14 (s.ahead 4 5 - 32)) := by
  have hlt : s.ahead 4 5 < 2 ^ 5 := memRead_lt _ _ _
  have hshift : sext 5 (memRead s.stream (s.bitpos + 4) 5) = s.ahead 4 5 - 32 := sext_five_of_le hneg
  rw [readLpcParams, withUint_ok _ (by omega), withInt_ok _ (show s.bitpos + 4 + 5 ≤ s.bitLength by omega)]
  simp only [State.setLpcPrec_stream, State.setLpcPrec_bitpos, State.setBitpos_stream, State.setBitpos_bitpos, hshift]
  rw [if_pos (by omega)]
  exact faultsWith_raise rfl rfl rfl rfl rfl

/-- An LPC body whose warmup is there runs as far as its negative shift (R220). -/
theorem lpcBody_negative {m : BitVec 5} (hf : s.fault = false) (hle : m.toNat + 1 ≤ s.blocksize)
    (hcap : s.blocksize ≤ s.capacity) (hb : s.bitpos + (m.toNat + 1) * s.work.bpsEff + 9 ≤ s.bitLength)
    (hneg : 16 ≤ s.ahead ((m.toNat + 1) * s.work.bpsEff + 4) 5) :
    FaultsWith (execLpcBody m s) s (.got .p14 (s.ahead ((m.toNat + 1) * s.work.bpsEff + 4) 5 - 32)) := by
  obtain ⟨u, hu, hread, -⟩ := readSamples_reads (s := s.setWork { s.work with order := m.toNat + 1 })
    (count := m.toNat + 1) hf (hle.trans hcap)
    (show s.bitpos + (m.toNat + 1) * s.work.bpsEff ≤ s.bitLength by omega)
  have hwarm : Reads ((m.toNat + 1) * s.work.bpsEff) s u := ⟨hread.frame⟩
  have hahead : u.ahead 4 5 = s.ahead ((m.toNat + 1) * s.work.bpsEff + 4) 5 := by
    rw [State.ahead, hwarm.stream, hwarm.bitpos, Nat.add_assoc]
    rfl
  have hfault := readLpcParams_negative (s := u) (order := m.toNat + 1) (by rw [hwarm.bitpos, hwarm.bitLength]; exact hb)
    (hahead ▸ hneg)
  rw [hahead] at hfault
  rw [execLpcBody, live_ok _ hf]
  show FaultsWith (seq (checkOrder (m.toNat + 1) s) _) s _
  rw [checkOrder_ok hle, seq_live _ (by exact hf), hu, seq_live _ (hwarm.fault.trans hf)]
  exact FaultsWith.seq (hfault.of_reads hwarm) _

end

/-- Settles O51: the order is checked before anything is read, the shift behind the warmup and before the
coefficients. -/
theorem predictorChecks : Obligations.PredictorChecks := by
  intro s hf
  refine ⟨fun order h => ?_, fun m => ⟨fun h => ?_, fun hle hcap _ _ => lpcBody_negative hf hle hcap⟩⟩
  · show FaultsWith (execFixedBody order s) s _
    rw [execFixedBody, live_ok _ hf]
    exact (checkOrder_faults h).seq _
  · show FaultsWith (execLpcBody m s) s _
    rw [execLpcBody, live_ok _ hf]
    exact (checkOrder_faults h).seq _

end Sys2Proof.Machine
end

section
/-! The plainest frame: one channel of a constant, O35, a frame of `frameDecodesToItsSamples`. -/

namespace Sys2Proof.Machine

/-- The plan of a frame of one channel with the value `v` throughout, no wasted bits, a coded number of one byte. -/
def FramePlan.monoConstant (strategy zero : Bool) (bs sr : BitVec 4) (ss : BitVec 3) (x : BitVec 7) (v : Int)
    (c8 : BitVec 8) (c16 : BitVec 16) : FramePlan where
  strategy := strategy
  bs := bs
  sr := sr
  ca := 0
  ss := ss
  number := .codedNumberK000 x
  blocksizeExt := 0
  rateExt := 0
  crc8 := c8
  sub0 := ⟨zero, none, .constant v⟩
  sub1 := none
  crc16 := c16

/-- The sample sizes of the codes without a reference to STREAMINFO (R114). -/
theorem tableBps_bounds (ss : BitVec 3) (hss : ss.toNat ∉ [0, 3]) :
    0 < tableBps ss.toNat 0 ∧ tableBps ss.toNat 0 ≤ 64 := by
  revert ss
  decide

section
variable {strategy zero : Bool} {bs sr : BitVec 4} {ss : BitVec 3} {x : BitVec 7} {v : Int} {c8 : BitVec 8}
  {c16 : BitVec 16}

theorem FramePlan.monoConstant_legal {n : Nat} (hbs : bs.toNat ∉ [0, 6, 7]) (hsr : sr.toNat ∉ [0, 12, 13, 14, 15])
    (hss : ss.toNat ∉ [0, 3]) (hcap : tableBlocksize bs.toNat 0 ≤ n) :
    (monoConstant strategy zero bs sr ss x v c8 c16).legal n := by
  simp only [List.mem_cons, List.not_mem_nil, or_false, not_or] at hbs hsr hss
  obtain ⟨hbs0, -, -⟩ := hbs
  obtain ⟨-, -, -, -, hsr15⟩ := hsr
  obtain ⟨-, hss3⟩ := hss
  exact ⟨hbs0, hsr15, List.mem_cons_self, hss3, rfl, Nat.two_pow_pos _, Nat.two_pow_pos _, hcap,
    iff_of_true rfl rfl⟩

/-- The frame's one subframe stands for its constant. -/
theorem FramePlan.monoConstant_produces {siBps bps : Nat} (hbps : tableBps ss.toNat siBps = bps) (h0 : 0 < bps)
    (h64 : bps ≤ 64) (hv : fitsSigned bps v = true) :
    (monoConstant strategy zero bs sr ss x v c8 c16).produces siBps (fun _ => v) (fun _ => v) := by
  subst hbps
  refine ⟨fun _ => v, fun _ => v, ⟨h0, h64, fun _ => v, ⟨hv, fun _ _ => rfl⟩, fun _ _ => ?_⟩, fun _ hq => ?_,
    fun _ _ => ⟨rfl, rfl, fun hne => absurd rfl hne⟩⟩
  · exact ⟨(mul_one v).symm, inRange64_of_fits h64 hv⟩
  · cases hq

/-- The bits of the frame: no extension, no wasted-bits count, one subframe. -/
theorem FramePlan.monoConstant_bits {siBps bps : Nat} (hbps : tableBps ss.toNat siBps = bps)
    (hbs : bs.toNat ∉ [0, 6, 7]) (hsr : sr.toNat ∉ [0, 12, 13, 14, 15]) :
    (monoConstant strategy zero bs sr ss x v c8 c16).bits siBps =
      encode (.framePreamble strategy bs sr 0 ss) ++ encode (.codedNumberK000 x) ++ encode (.crc8 c8) ++
        encode (.subframeConstant zero false) ++ encode (.constantBody bps v) := by
  subst hbps
  simp only [List.mem_cons, List.not_mem_nil, or_false, not_or] at hbs hsr
  obtain ⟨-, hbs6, hbs7⟩ := hbs
  obtain ⟨-, hsr12, hsr13, hsr14, -⟩ := hsr
  have hb : blocksizeExtWidth bs.toNat = 0 := by rw [blocksizeExtWidth, if_neg hbs6, if_neg hbs7]
  have hr : rateExtWidth sr.toNat = 0 := by rw [rateExtWidth, if_neg hsr12, if_neg (not_or.2 ⟨hsr13, hsr14⟩)]
  show encode (.framePreamble strategy bs sr 0 ss) ++ encode (.codedNumberK000 x) ++
    bitsOf (blocksizeExtWidth bs.toNat) 0 ++ bitsOf (rateExtWidth sr.toNat) 0 ++ encode (.crc8 c8) ++
    (encode (.subframeConstant zero false) ++ encode (.constantBody (tableBps ss.toNat siBps) v)) ++ [] = _
  rw [hb, hr]
  simp only [bitsOf, List.append_nil, List.append_assoc]

end

/-- Settles O35: the frame of the plan `FramePlan.monoConstant`. -/
theorem monoConstantFrame : Obligations.MonoConstantFrame := by
  intro s strategy zero bs sr ss x v c8 c16 pad bps hf hstate hbs hsr hss hbps hcap hv hpad h
  have hne : ss.toNat ≠ 0 ∧ sr.toNat ≠ 0 := ⟨fun h0 => hss (by simp [h0]), fun h0 => hsr (by simp [h0])⟩
  obtain ⟨hss0, hsr0⟩ := hne
  have hwidth : tableBps ss.toNat s.si.bps.toNat = bps := by rw [tableBps_of_ne_zero hss0, hbps]
  obtain ⟨h0, h64⟩ := hbps ▸ tableBps_bounds ss hss
  let p := FramePlan.monoConstant strategy zero bs sr ss x v c8 c16
  have hbits : p.bits s.si.bps.toNat = _ := FramePlan.monoConstant_bits hwidth hbs hsr
  have hlen : (p.bits s.si.bps.toNat).length = 56 + bps := by
    rw [hbits]
    simp [encode]
    omega
  obtain ⟨t, ht, htf, htv, htd, htpos, htb, -, htn, hts, htr, hcells, -⟩ :=
    frameDecodesToItsSamples s p pad _ _ hf (.inl hstate) (FramePlan.monoConstant_legal hbs hsr hss hcap)
      (fun h0 => absurd (congrArg BitVec.toNat h0) hss0) (FramePlan.monoConstant_produces hwidth h0 h64 hv)
      (by rw [hlen, hpad, Nat.add_assoc]) (by rw [hbits]; exact h)
  refine ⟨t, ht, htf, htv, htd.trans hstate, ?_, htb, ?_, BitVec.eq_of_toNat_eq htn, hts.trans hwidth, hcells⟩
  · rw [htpos, hlen, ← Nat.add_assoc]
  · rw [htr (.inl fun h0 => hsr0 (congrArg BitVec.toNat h0))]
    exact tableRate_of_ne_zero hsr0 _ _

end Sys2Proof.Machine
end

section
/-! The residual on any stream (R250 to R257): its header, O53, the residuals stored, O55, the folded zig-zag, O56, and
the whole as written, O57. -/

namespace Sys2Proof.Machine

/-! ## The residual's header -/

section
variable {s : State} {method po : Nat}

/-- Partitions that do not divide the block are P10, whatever the order (R251). -/
theorem residualHeader_undivided (hf : s.fault = false) (hb : s.bitpos + 6 ≤ s.bitLength)
    (hdiv : s.blocksize % 2 ^ po ≠ 0) :
    FaultsWith (residualHeader method po s) s (.gotOf .p10 s.blocksize (2 ^ po : Nat)) :=
  element_faults hf hb (if_pos hdiv)

/-- A partition shorter than the order is P12 (R251). -/
theorem residualHeader_below_order (hf : s.fault = false) (hb : s.bitpos + 6 ≤ s.bitLength)
    (hdiv : s.blocksize % 2 ^ po = 0) (horder : s.blocksize / 2 ^ po < s.work.order) :
    FaultsWith (residualHeader method po s) s (.gotOf .p12 s.work.order (s.blocksize / 2 ^ po : Nat)) :=
  element_faults hf hb ((if_neg (not_not.2 hdiv)).trans (if_pos horder))

/-- A header that passes both checks leaves the partitions' number and size (R251). -/
theorem residualHeader_ok (hf : s.fault = false) (hb : s.bitpos + 6 ≤ s.bitLength) (hdiv : s.blocksize % 2 ^ po = 0)
    (horder : s.work.order ≤ s.blocksize / 2 ^ po) :
    residualHeader method po s = .next (s.readTo 6
      { s.work with method := method, po := po, pcount := 2 ^ po, psize := s.blocksize / 2 ^ po }) :=
  element_readTo hf hb ((if_neg (not_not.2 hdiv)).trans (if_neg horder.not_gt))

end

/-- Settles O53: methods 0 and 1 are one header with two checks, methods 2 and 3 fault behind their 2 bits. -/
theorem residualHeaderRows : Obligations.ResidualHeaderRows := by
  intro s hf
  refine ⟨fun po hb => ⟨fun hdiv => ?_, fun hdiv horder => ?_, fun hdiv horder => ?_⟩, fun hb => ?_⟩
  · exact ⟨residualHeader_undivided hf hb hdiv, residualHeader_undivided hf hb hdiv⟩
  · exact ⟨residualHeader_below_order hf hb hdiv horder, residualHeader_below_order hf hb hdiv horder⟩
  · exact ⟨residualHeader_ok hf hb hdiv horder, residualHeader_ok hf hb hdiv horder⟩
  · exact ⟨element_faults hf hb rfl, element_faults hf hb rfl⟩

/-! ## The folded zig-zag -/

theorem zigzag_of_even {u : Nat} (h : u % 2 = 0) : zigzag u = ((u / 2 : Nat) : Int) := if_pos h

theorem zigzag_of_odd {u : Nat} (h : u % 2 = 1) : zigzag u = -((u / 2 : Nat) : Int) - 1 := by
  rw [zigzag, if_neg (by omega), show (u - 1) / 2 = u / 2 by omega]

/-- The inverse by the sign (R255). -/
theorem zigzagInv_eq (v : Int) : (zigzagInv v : Int) = if 0 ≤ v then 2 * v else -2 * v - 1 := by
  unfold zigzagInv
  split_ifs <;> omega

/-- The inverse undoes the folded zig-zag (R255). -/
theorem zigzagInv_zigzag (u : Nat) : zigzagInv (zigzag u) = u := by
  have hinv := zigzagInv_eq (zigzag u)
  rcases Nat.mod_two_eq_zero_or_one u with h | h
  · rw [zigzag_of_even h, if_pos (by omega)] at hinv
    rw [zigzag_of_even h]
    omega
  · rw [zigzag_of_odd h, if_neg (by omega)] at hinv
    rw [zigzag_of_odd h]
    omega

/-- The folded value as the rule writes it, an odd number by `(u − 1) / 2` (R255). -/
theorem zigzag_eq_fold (u : Nat) :
    zigzag u = if u % 2 = 0 then (u : Int) / 2 else -((u : Int) - 1) / 2 - 1 := by
  split_ifs with h
  · rw [zigzag_of_even h]
    omega
  · rw [zigzag_of_odd (by omega)]
    omega

/-- Settles O56: each of the two functions undoes the other, which makes the zig-zag bijective. -/
theorem zigzagIsABijection : Obligations.ZigzagIsABijection :=
  ⟨⟨Function.LeftInverse.injective zigzagInv_zigzag, Function.RightInverse.surjective zigzag_zigzagInv⟩,
    zigzagInv_zigzag, zigzag_zigzagInv, fun _ => zigzag_of_even, fun _ => zigzag_of_odd, zigzagInv_eq⟩

/-! ## The residuals stored -/

/-- A residual that leaves 64 bits is A06, and nothing is stored (R226). -/
theorem storeResidual_overflow {v : Int} {s : State} (hv : inRange64 v = false) :
    storeResidual v s = raise (.plain .a06) s := by
  rw [storeResidual, writeXI64, writeI64_overflow hv, raise_eq, seq_faulted _ rfl]

/-- Settles O55: each is one element; a value in range is stored (`element_stores`), one outside is A06
(`storeResidual_overflow`). -/
theorem residualsAreStored : Obligations.ResidualsAreStored := by
  intro s hf
  refine ⟨fun n hb => element_ok _ hf hb, fun hch hi => ⟨fun width v hwf hb => ?_, fun k q r _ hb v hv => ?_⟩⟩
  · simp only [Instr.WellFormed, Instr.wellFormed, Bool.and_eq_true, decide_eq_true_eq] at hwf
    obtain ⟨h31, hfits⟩ := hwf
    obtain ⟨t, ht, hstores⟩ := element_stores hf hch hi (inRange64_of_fits (by omega) hfits) hb
    exact ⟨t, ht, hstores.frame, hstores.writes⟩
  · obtain rfl : v = zigzag (q * 2 ^ k + r) := hv.trans (zigzag_eq_fold _).symm
    refine ⟨fun hlo hhi => ?_, fun hout => ?_⟩
    · obtain ⟨t, ht, hstores⟩ := element_stores hf hch hi ((inRange64_iff _).2 ⟨hlo, hhi⟩) hb
      exact ⟨t, ht, hstores.frame, hstores.writes⟩
    · exact element_faults hf hb (storeResidual_overflow ((inRange64_false_iff _).2 hout))

/-! ## The residual as written -/

/-- Partitions that fill their cells have as many values as there are cells. -/
theorem PartitionsFit.length_values {order psize method n : Nat} {parts : List PartitionPlan} {i : Nat}
    (h : PartitionsFit order psize method n parts i) :
    partitionStart order psize i + (parts.flatMap PartitionPlan.values).length =
      partitionStart order psize (i + parts.length) := by
  induction parts generalizing i with
  | nil => rfl
  | cons q parts ih =>
    obtain ⟨hfirst, -, -⟩ := h 0 (by simp)
    rw [Nat.add_zero, List.getD_cons_zero] at hfirst
    rw [List.flatMap_cons, List.length_append, ← Nat.add_assoc, hfirst, ih h.tail, List.length_cons]
    congr 1
    omega

/-- A legal residual has one value for each sample behind the warmup (R252). -/
theorem ResidualPlan.legal.length_values {p : ResidualPlan} {order blocksize : Nat} (hp : p.legal order blocksize) :
    order + p.values.length = blocksize := by
  have hvalues := (hp.fit le_rfl).length_values
  obtain ⟨-, -, hdiv, -, hcount, -, -⟩ := hp
  have hpos : 2 ^ p.po ≠ 0 := by positivity
  rw [Nat.zero_add, hcount, partitionStart, if_pos rfl, partitionStart, if_neg hpos,
    Nat.mul_div_cancel' (Nat.dvd_of_mod_eq_zero hdiv)] at hvalues
  exact hvalues

/-- Settles O57: `decodeResidual_spec`, by induction over the partitions and their residuals, and the number of
values. -/
theorem residualRoundTrip : Obligations.ResidualRoundTrip := by
  intro s order p hf hch hcap ho hp h
  obtain ⟨t, ht, hread, htch, htw, htb, hwrites⟩ := decodeResidual_spec p s hf hch hcap ho hp h
  exact ⟨t, ht, hread.frame, htch, htw, htb, by have := hp.length_values; omega, hwrites⟩

end Sys2Proof.Machine
end

section
/-! The decorrelation (R271 to R274), O58, and that it undoes the stereo forms (R276), O59. -/

namespace Sys2Proof.Machine

section
variable {s u t : State} {i : Nat}

/-! ## One channel from both: left/side and side/right -/

/-- A write that takes no fault leaves the other channel as it was. -/
theorem writeI64_keeps_channel {c d : Nat} {v : Int} (hcd : (c = 0) ≠ (d = 0)) :
    Post (fun t => t.fault = false → t.channel d = s.channel d) (writeI64 c i v s) := by
  unfold writeI64 writeSample
  split
  · exact post_raise _ s fun h => nomatch h
  · split
    · exact (post_next _ _).2 fun _ => State.channel_setChannel_other s c d _ hcd
    · exact post_fault _ _

section
variable {f : Nat → State → Out} {c n : Nat} {g : Int → Int → Int}
  (hround : ∀ i u, f i u = writeI64 c i (g (u.sample 0 i) (u.sample 1 i)) u)
include hround

/-- The rounds before left both cells `i` alone. -/
theorem channelLoop_round {x : Nat → Int} (h : Writes s u c 0 i x) :
    f i u = writeI64 c i (g (s.sample 0 i) (s.sample 1 i)) u := by
  have hcell : ∀ d, d ≤ 1 → u.sample d i = s.sample d i := fun d hd =>
    congrArg BitVec.toInt ((h d i hd).2 (.inr (.inr (le_refl i))))
  rw [hround, hcell 0 (Nat.zero_le 1), hcell 1 (le_refl 1)]

/-- A loop that writes a channel's cells from those of both channels writes nothing else. -/
theorem channelLoop_spec (hf : s.fault = false) (hc : c ≤ 1) (hcap : n ≤ s.capacity)
    (hfits : ∀ i, i < n → inRange64 (g (s.sample 0 i) (s.sample 1 i)) = true) :
    ∃ t, forRange n 0 f s = .next t ∧ t = { s with sb0 := t.sb0, sb1 := t.sb1 } ∧
      (∀ d, (c = 0) ≠ (d = 0) → t.channel d = s.channel d) ∧
      Writes s t c 0 n fun i => g (s.sample 0 i) (s.sample 1 i) := by
  obtain ⟨t, ht, hframe, hwrites⟩ := cellLoop_spec (f := f) (c := c) (count := n)
    (x := fun i => g (s.sample 0 i) (s.sample 1 i)) s hf fun i u hi hu hsofar => by
      rw [channelLoop_round hround hsofar]
      exact writeI64_spec hc (by rw [hu]; exact hi.trans_le hcap) (hfits i hi)
  refine ⟨t, ht, hframe, fun d hcd => ?_, hwrites⟩
  refine post_forRange_index (I := fun _ u => u.channel d = s.channel d) n 0 s (fun i u _ _ hu => ?_) rfl t ht
    (by rw [hframe]; exact hf)
  rw [hround]
  exact (writeI64_keeps_channel hcd).mono fun v hv hvf => (hv hvf).trans hu

/-- One value outside 64 bits is A06, whichever cell it is for. -/
theorem channelLoop_overflow {bad : Nat} (hf : s.fault = false) (hc : c ≤ 1) (hcap : n ≤ s.capacity) (hbad : bad < n)
    (hover : inRange64 (g (s.sample 0 bad) (s.sample 1 bad)) = false) :
    FaultsWith (forRange n 0 f s) s (.plain .a06) :=
  cellLoop_faults (c := c) (x := fun i => g (s.sample 0 i) (s.sample 1 i)) hf hbad fun i u hi hu hsofar => by
    rw [channelLoop_round hround hsofar]
    cases hrange : inRange64 (g (s.sample 0 i) (s.sample 1 i)) with
    | true =>
      refine .inl ⟨?_, writeI64_spec hc (by rw [hu]; exact hi.trans_le hcap) hrange⟩
      rintro rfl
      exact absurd (hover.symm.trans hrange) (by decide)
    | false =>
      rw [writeI64_overflow hrange, hu]
      exact .inr (faultsWith_raise rfl rfl rfl rfl rfl)

end

/-! ## Both channels: mid/side -/

/-- From `s` to `u` cells below `k` may have been written, and nothing else. -/
structure KeepsFrom (k : Nat) (s u : State) : Prop where
  frame : u = { s with sb0 := u.sb0, sb1 := u.sb1 }
  cells : ∀ c i, c ≤ 1 → k ≤ i → u.cell c i = s.cell c i

theorem KeepsFrom.refl (k : Nat) (s : State) : KeepsFrom k s s := ⟨rfl, fun _ _ _ _ => rfl⟩

theorem KeepsFrom.decorrelatedAt {ca : Nat} (h : KeepsFrom i s u) : u.decorrelatedAt ca i = s.decorrelatedAt ca i := by
  simp only [State.decorrelatedAt, State.sample, h.cells 0 i (Nat.zero_le 1) (le_refl i),
    h.cells 1 i (le_refl 1) (le_refl i)]

theorem KeepsFrom.storesPair {ab : Int × Int} (h : KeepsFrom i s u) (hpair : StoresPair i ab u t) :
    KeepsFrom (i + 1) s t :=
  ⟨by rw [hpair.frame, h.frame], fun c j hc hj => by rw [hpair.others c j hc (by omega), h.cells c j hc (by omega)]⟩

/-- The samples that mid/side makes of the cells `i` lie in 64 bits. -/
def State.MidSideFits (s : State) (i : Nat) : Prop :=
  inRange64 (s.decorrelatedAt 10 i).1 = true ∧ inRange64 (s.decorrelatedAt 10 i).2 = true

/-- A round of mid/side where both samples fit, the rounds before having written the cells before. -/
theorem midSideAt_next (hf : s.fault = false) (hi : i < s.capacity) (hu : KeepsFrom i s u) (hfits : s.MidSideFits i) :
    ∃ t, midSideAt i u = .next t ∧ t.fault = false ∧ KeepsFrom (i + 1) s t := by
  rw [State.MidSideFits, ← hu.decorrelatedAt] at hfits
  obtain ⟨t, ht, hpair⟩ := midSideAt_pair (by rw [hu.frame]; exact hf) (by rw [hu.frame]; exact hi) hfits.1 hfits.2
  have hk := hu.storesPair hpair
  exact ⟨t, ht, by rw [hk.frame]; exact hf, hk⟩

/-- A round of mid/side where the right sample leaves 64 bits, or the left one after the right one was written. -/
theorem midSideAt_overflow (hf : s.fault = false) (hi : i < s.capacity) (hu : KeepsFrom i s u)
    (hover : ¬s.MidSideFits i) : FaultsWith (midSideAt i u) s (.plain .a06) := by
  rw [State.MidSideFits, ← hu.decorrelatedAt] at hover
  have hright : u.sample 0 i - asr (u.sample 1 i) 1 = (u.decorrelatedAt 10 i).2 := rfl
  have hleft : (u.decorrelatedAt 10 i).2 + u.sample 1 i = (u.decorrelatedAt 10 i).1 := rfl
  simp only [midSideAt, hright]
  cases hrange : inRange64 (u.decorrelatedAt 10 i).2 with
  | false =>
    rw [i64, hrange, hu.frame]
    exact faultsWith_raise rfl rfl rfl rfl rfl
  | true =>
    obtain ⟨v, hv, hvframe, -⟩ := writeSample_spec (c := 1) (i := i) (s := u) (le_refl 1)
      (by rw [hu.frame]; exact hi) hrange
    have hvs : v = { s with sb0 := v.sb0, sb1 := v.sb1 } := by rw [hvframe, hu.frame]
    have hvf : v.fault = false := by rw [hvs]; exact hf
    simp only [i64_of_inRange hrange]
    rw [hv, seq_live _ hvf, hleft, writeI64_overflow (Bool.eq_false_iff.2 fun h => hover ⟨h, hrange⟩), hvs]
    exact faultsWith_raise rfl rfl rfl rfl rfl

/-- Mid/side over a block that fits writes no cell behind it. -/
theorem midSideLoop_keeps {n : Nat} (hf : s.fault = false) (hcap : n ≤ s.capacity)
    (hfits : ∀ i, i < n → s.MidSideFits i) :
    ∃ t, forRange n 0 midSideAt s = .next t ∧ KeepsFrom n s t := by
  obtain ⟨t, ht, -, hk⟩ := forRange_total (I := fun k u => KeepsFrom k s u) n 0 s
    (fun i u _ hi _ hu => midSideAt_next hf (by omega) hu (hfits i (by omega))) hf (.refl 0 s)
  exact ⟨t, ht, Nat.zero_add n ▸ hk⟩

/-- One sample of mid/side outside 64 bits is A06, whichever cell it is for. -/
theorem midSideLoop_overflow {n bad : Nat} (hf : s.fault = false) (hcap : n ≤ s.capacity) (hbad : bad < n)
    (hover : ¬s.MidSideFits bad) : FaultsWith (forRange n 0 midSideAt s) s (.plain .a06) :=
  forRange_faults (I := fun k u => KeepsFrom k s u) (F := fun o => FaultsWith o s (.plain .a06)) n 0 bad s
    (Nat.zero_le bad) (by omega) (fun _ g h => h.seq g)
    (fun i u _ hi _ hu => by
      by_cases hfits : s.MidSideFits i
      · refine .inl ⟨?_, midSideAt_next hf (by omega) hu hfits⟩
        rintro rfl
        exact hover hfits
      · exact .inr (midSideAt_overflow hf (by omega) hu hfits))
    hf (.refl 0 s)

/-! ## The loop that the channel assignment selects -/

theorem decorrelate_independent (h : s.fr.chAssign = 0 ∨ s.fr.chAssign = 1) : decorrelate s = .next s := by
  rcases h with h | h <;> rw [decorrelate, h] <;> rfl

theorem decorrelate_leftSide (h : s.fr.chAssign = 8) : decorrelate s = forRange s.blocksize 0 leftSideAt s := by
  rw [decorrelate, h]; rfl

theorem decorrelate_sideRight (h : s.fr.chAssign = 9) : decorrelate s = forRange s.blocksize 0 sideRightAt s := by
  rw [decorrelate, h]; rfl

theorem decorrelate_midSide (h : s.fr.chAssign = 10) : decorrelate s = forRange s.blocksize 0 midSideAt s := by
  rw [decorrelate, h]; rfl

/-! ## What the stereo forms stand for -/

theorem decorrelated_leftSide (l r : Int) : decorrelated 8 l (l - r) = (l, r) := by
  simp [decorrelated]

theorem decorrelated_sideRight (l r : Int) : decorrelated 9 (l - r) r = (l, r) := by
  simp [decorrelated]

/-- The bit that halving the sum drops is the lowest bit of the difference too. -/
theorem decorrelated_midSide (l r : Int) : decorrelated 10 ((l + r) / 2) (l - r) = (l, r) := by
  have hright : (l + r) / 2 - (l - r) / 2 = r := by omega
  simp [decorrelated, hright]

end

/-- Settles O58: left/side and side/right are `channelLoop_spec` and `channelLoop_overflow`; mid/side makes the samples
of `decorrelate_spec`, keeps the rest (`midSideLoop_keeps`), or faults (`midSideLoop_overflow`). -/
theorem decorrelation : Obligations.Decorrelation := by
  intro s hf hcap
  refine ⟨decorrelate_independent, fun h => ?_, fun h => ?_, fun h => ?_⟩
  · rw [decorrelate_leftSide h]
    have hround : ∀ i u, leftSideAt i u = writeI64 1 i (u.sample 0 i - u.sample 1 i) u := fun _ _ => rfl
    refine ⟨fun hfits => ?_, fun ⟨i, hi, hover⟩ => channelLoop_overflow hround hf (le_refl 1) hcap hi hover⟩
    obtain ⟨t, ht, hframe, hkeep, hwrites⟩ := channelLoop_spec hround hf (le_refl 1) hcap hfits
    have hsb0 : t.sb0 = s.sb0 := hkeep 0 (by decide)
    exact ⟨t, ht, hframe.trans (by rw [hsb0]), hwrites⟩
  · rw [decorrelate_sideRight h]
    have hround : ∀ i u, sideRightAt i u = writeI64 0 i (u.sample 0 i + u.sample 1 i) u := fun _ _ => rfl
    refine ⟨fun hfits => ?_, fun ⟨i, hi, hover⟩ => channelLoop_overflow hround hf (Nat.zero_le 1) hcap hi hover⟩
    obtain ⟨t, ht, hframe, hkeep, hwrites⟩ := channelLoop_spec hround hf (Nat.zero_le 1) hcap hfits
    have hsb1 : t.sb1 = s.sb1 := hkeep 1 (by decide)
    exact ⟨t, ht, hframe.trans (by rw [hsb1]), hwrites⟩
  · refine ⟨fun hfits => ?_, fun ⟨i, hi, hover⟩ => ?_⟩
    · have hboth : ∀ i, i < s.blocksize → s.MidSideFits i := fun i hi => (hfits i hi).symm
      obtain ⟨t, ht, hframe, hpairs⟩ := decorrelate_spec hf (congrArg BitVec.toNat h) (by decide) hcap fun _ => hboth
      obtain ⟨u, hu, hkeep⟩ := midSideLoop_keeps (n := s.blocksize) hf hcap hboth
      obtain rfl : t = u := by rw [decorrelate_midSide h, hu] at ht; cases ht; rfl
      exact ⟨t, ht, hframe, fun i => ⟨fun hi => Prod.mk.inj (hpairs i hi), fun hi =>
        ⟨hkeep.cells 0 i (Nat.zero_le 1) hi, hkeep.cells 1 i (le_refl 1) hi⟩⟩⟩
    · rw [decorrelate_midSide h]
      refine midSideLoop_overflow hf hcap hi fun ⟨hleft, hright⟩ => ?_
      rcases hover with hover | hover
      · exact absurd (hover.symm.trans hright) (by decide)
      · exact absurd (hover.symm.trans hleft) (by decide)

/-- Settles O59: what each form stands for (`decorrelated_leftSide` and its two fellows) is what the decorrelation leaves
(`decorrelate_spec`). -/
theorem decorrelationInverts : Obligations.DecorrelationInverts := by
  intro s l r hf hcap hbounds hforms
  obtain ⟨ca, hca, hmem, hpair⟩ : ∃ ca, s.fr.chAssign.toNat = ca ∧ ca ∈ [0, 1, 8, 9, 10] ∧
      ∀ i, i < s.blocksize → s.decorrelatedAt ca i = (l i, r i) := by
    rcases hforms with ⟨h, hcells⟩ | ⟨h, hcells⟩ | ⟨h, hcells⟩
    · refine ⟨8, congrArg BitVec.toNat h, by decide, fun i hi => ?_⟩
      rw [State.decorrelatedAt, (hcells i hi).1, (hcells i hi).2, decorrelated_leftSide]
    · refine ⟨9, congrArg BitVec.toNat h, by decide, fun i hi => ?_⟩
      rw [State.decorrelatedAt, (hcells i hi).1, (hcells i hi).2, decorrelated_sideRight]
    · refine ⟨10, congrArg BitVec.toNat h, by decide, fun i hi => ?_⟩
      rw [State.decorrelatedAt, (hcells i hi).1, (hcells i hi).2, decorrelated_midSide]
  obtain ⟨t, ht, hframe, hpairs⟩ := decorrelate_spec hf hca hmem hcap fun _ i hi => by
    obtain ⟨hl, hl', hr, hr'⟩ := hbounds i
    rw [hpair i hi, inRange64_iff, inRange64_iff]
    omega
  exact ⟨t, ht, by rw [hframe]; exact hf, fun i hi => Prod.mk.inj ((hpairs i hi).trans (hpair i hi))⟩

end Sys2Proof.Machine
end

section
/-! The entry into a fault, whatever instruction takes it: O15. A latched fault is left by a construction alone: O17
(R295, R296). -/

namespace Sys2Proof.Machine

/-- A fault latched in `t` is the entry into a fault raised in a run from `s` (R295). -/
def TakesFault (s t : State) : Prop := t.fault = true → ∃ r, FaultEntry s t r

section
variable {s t u : State}

theorem takesFault_of_live (h : t.fault = false) : TakesFault s t := fun ht => by simp [h] at ht

theorem takesFault_raised (r : Raise) (s : State) : TakesFault s (s.scramble.latch r) :=
  fun _ => ⟨r, rfl, rfl, rfl, rfl, rfl, rfl, rfl, rfl, rfl, rfl⟩

/-- A07 writes the latch alone, and that is a fault entry (R150). -/
theorem takesFault_latched (r : Raise) (s : State) : TakesFault s (s.latch r) :=
  fun _ => ⟨r, rfl, rfl, rfl, rfl, rfl, Bool.and_false _, rfl, rfl, rfl, rfl⟩

/-- What went on before the fault kept all that fault entry keeps. -/
theorem FaultEntry.after {r : Raise} (hg : Goes s u) (h : FaultEntry u t r) : FaultEntry s t r := by
  rw [hg.frame] at h
  exact h

theorem FaultsWith.after {o : Out} {r : Raise} (hg : Goes s u) (h : FaultsWith o u r) : FaultsWith o s r := by
  obtain ⟨t, ht, hr⟩ := h
  exact ⟨t, ht, .after hg hr⟩

theorem TakesFault.after (hg : Goes s u) (h : TakesFault u t) : TakesFault s t := fun ht => by
  obtain ⟨r, hr⟩ := h ht
  exact ⟨r, .after hg hr⟩

theorem Advances.takesFault (h : Advances s t) (hs : s.fault = false) : TakesFault s t := by
  rcases h with h | ⟨u, r, h, rfl⟩
  · exact takesFault_of_live (h.fault.trans hs)
  · exact (takesFault_raised r u).after h

theorem StreamInfoEnds.takesFault (h : StreamInfoEnds s t) (hs : s.fault = false) : TakesFault s t := by
  rcases h with h | ⟨u, i, h, -, rfl⟩
  · exact h.takesFault hs
  · exact takesFault_of_live (h.fault.trans hs)

/-! ## Sequences and guards -/

theorem Runs.takesFault {p : Prop} {Q : State → Prop} {o : Out} (h : Runs p s Q o) (hs : s.fault = false) :
    Post (TakesFault s) o := h.advances.mono fun _ ha => ha.takesFault hs

/-- A part that goes on, and what follows it. -/
theorem Runs.takesFault_seq {p : Prop} {Q : State → Prop} {o : Out} {f : State → Out} (h : Runs p s Q o)
    (hs : s.fault = false) (hf : ∀ u, Q u → u.fault = false → Post (TakesFault u) (f u)) :
    Post (TakesFault s) (Machine.seq o f) :=
  post_seq (h.advances.and h.ensures) (fun _ ⟨ha, _⟩ _ => ha.takesFault hs) fun u ⟨ha, hq⟩ hl =>
    (hf u (hq hl) hl).mono fun _ ht => ht.after (ha.goes hl)

/-- A part, and then a return that takes no fault. -/
theorem takesFault_seq_return {o : Out} {f : State → State} (ho : Post (TakesFault s) o)
    (hf : ∀ u, (f u).fault = u.fault) : Post (TakesFault s) (seq o fun u => .next (f u)) :=
  post_seq ho (fun _ h _ => h) fun u _ hl => (post_next _ _).2 (takesFault_of_live ((hf u).trans hl))

/-- A command takes A07, or the fault of its body (R150). -/
theorem takesFault_command {c : Command} {f : State → Out} (hs : s.fault = false) (hf : Post (TakesFault s) (f s)) :
    Post (TakesFault s) (command c s f) := by
  rw [command, live_ok _ hs]
  split
  · exact hf
  · exact (post_next _ _).2 (takesFault_latched _ s)

/-! ## Bit-source calls -/

/-- A call that returns a value reads its bits, or takes P11. -/
theorem takesFault_withUint (n : Nat) (g : Nat → Int) (hs : s.fault = false) :
    Post (TakesFault s) (withUint n s fun v t => .next (t.setResult (g v))) :=
  post_withUint (takesFault_raised _ s) fun _ => (post_next _ _).2 (takesFault_of_live hs)

/-- A read of at most 64 bits, refused for more (R130, R131). -/
theorem takesFault_field (n : Nat) (g : Nat → Int) (hs : s.fault = false) :
    Post (TakesFault s)
      (if n ≤ Config.maxField then withUint n s fun v t => .next (t.setResult (g v)) else .refused .fieldTooWide) := by
  split
  · exact takesFault_withUint n g hs
  · exact post_refused _ _

theorem takesFault_withUnary (hs : s.fault = false) :
    Post (TakesFault s) (withUnary s fun q t => .next (t.setResult q)) := by
  unfold withUnary
  split
  · exact post_raise _ s (takesFault_raised _ s)
  · exact post_consume (takesFault_raised _ s) fun _ => (post_next _ _).2 (takesFault_of_live hs)

/-- A call tests the latch first, and runs where none is set (R161). -/
theorem takesFault_live {f : State → Out} (hs : s.fault = false) (hf : Post (TakesFault s) (f s)) :
    Post (TakesFault s) (live s f) := by rwa [live_ok f hs]

theorem call_takesFault (q : Primitive) (hs : s.fault = false) : Post (TakesFault s) (exec q.instr s) := by
  cases q with
  | getUint n => show Post _ (execGetUint n s); exact takesFault_live hs (takesFault_field n (fun v => v) hs)
  | getInt n => show Post _ (execGetInt n s); exact takesFault_live hs (takesFault_field n (sext n) hs)
  | getByte => show Post _ (execGetByte s); exact takesFault_live hs (takesFault_withUint 8 (fun v => v) hs)
  | align => show Post _ (execAlign s); exact takesFault_live hs ((post_next _ _).2 (takesFault_of_live hs))
  | clz8 b => show Post _ (execClz8 b s); exact takesFault_live hs ((post_next _ _).2 (takesFault_of_live hs))
  | eos => show Post _ (execEos s); exact takesFault_live hs ((post_next _ _).2 (takesFault_of_live hs))
  | getUnary => show Post _ (execGetUnary s); exact takesFault_live hs (takesFault_withUnary hs)
  | skipBytes n =>
    show Post _ (execSkipBytes n s)
    exact takesFault_live hs ((skipBytes_runs (p := False) n s).takesFault hs)

/-! ## Elements -/

theorem element_takesFault {i : Instr} {k : Kind} (hk : i.kind? = some k) (hs : s.fault = false) :
    Post (TakesFault s) (exec i s) := by
  by_cases hsi : k = .streaminfoBody
  · subst hsi
    obtain ⟨t, ht, hends⟩ := execLeaf_streaminfo_ends hk s
    rw [execLeaf_eq, if_pos (by rw [hk]; rfl)] at ht
    rw [ht]
    exact (post_next _ _).2 (hends.takesFault hs)
  · exact (exec_runs (p := False) hk hsi False.elim).takesFault hs

/-! ## Commands -/

theorem metadataBody_takesFault (hs : s.fault = false) : Post (TakesFault s) (metadataBody s) := by
  unfold metadataBody
  split
  · obtain ⟨t, ht, hends⟩ := runLeaf_streaminfo_ends s
    rw [ht]
    exact (post_next _ _).2 (hends.takesFault hs)
  · exact (plainLeaf_runs (p := False) (k := .skippedBody) rfl s).takesFault hs

/-- A frame takes a fault in its header, A05 at the header's end, or a fault behind the frame registers. -/
theorem decodeFrame_takesFault (hs : s.fault = false) : Post (TakesFault s) (decodeFrame s) := by
  rw [decodeFrame_eq]
  refine (headerFields_runs (p := False) s).takesFault_seq hs fun u hready hl => ?_
  rcases frame_after_header hready hl with ⟨r, hr⟩ | ⟨f, -, hw⟩
  · rw [hr]
    exact post_raise r u (takesFault_raised r u)
  · have hregs : (u.setFrameRegs f).fault = false := hl
    rw [hw]
    exact (frameBody_runs (p := False) False.elim).takesFault hregs

theorem execDecodeMarker_takesFault (hs : s.fault = false) : Post (TakesFault s) (execDecodeMarker s) :=
  takesFault_command hs (takesFault_seq_return (f := fun u => (u.setDecState .hasMarker).finish)
    ((plainLeaf_runs (p := False) (k := .marker) rfl s).takesFault hs) fun _ => rfl)

theorem execDecodeMetadata_takesFault (hs : s.fault = false) : Post (TakesFault s) (execDecodeMetadata s) :=
  takesFault_command hs ((plainLeaf_runs (p := False) (k := .metaHdr) rfl s).takesFault_seq hs fun u _ hl =>
    takesFault_seq_return (f := fun v => (if v.work.metaLast then v.setDecState .hasMetadata else v).finish)
      (metadataBody_takesFault hl) fun v => by
        show (if v.work.metaLast then v.setDecState .hasMetadata else v).fault = v.fault
        split <;> rfl)

theorem execDecodeAudio_takesFault (hs : s.fault = false) : Post (TakesFault s) (execDecodeAudio s) := by
  refine takesFault_command hs ?_
  simp only
  split
  · exact (post_next _ _).2 (takesFault_of_live hs)
  · exact takesFault_seq_return (f := fun u => (u.setFrValid true).finish)
      (decodeFrame_takesFault (s := s.setFrValid false) hs) fun _ => rfl

theorem decodeCommand_takesFault (n : BitVec 2) (hs : s.fault = false) :
    Post (TakesFault s) (exec (decodeCommand n) s) := by
  unfold decodeCommand
  split_ifs
  · exact execDecodeMarker_takesFault hs
  · exact execDecodeMetadata_takesFault hs
  · exact execDecodeAudio_takesFault hs
  · exact post_refused _ _

theorem exec_takesFault (i : Instr) (hs : s.fault = false) : Post (TakesFault s) (exec i s) := by
  cases hk : i.kind? with
  | some k => exact element_takesFault hk hs
  | none =>
    rcases command_or_call hk with ⟨n, rfl⟩ | ⟨q, rfl⟩
    · exact decodeCommand_takesFault n hs
    · exact call_takesFault q hs

end

/-- Settles O15: a fault that an instruction latches is the entry into some fault (`exec_takesFault`), element by element
and command by command. -/
theorem everyFaultEntry : Obligations.EveryFaultEntry := by
  refine ⟨fun i s t hs h ht => ?_, by decide, by decide⟩
  obtain ⟨r, -, hkind, hcause, -, hstate, hvalid, hstream, hcap, hport, hresult⟩ := exec_takesFault i hs t h ht
  exact ⟨by rw [hkind, hcause], hstate, hvalid, hstream, hcap, hport, hresult⟩

/-! ## Out of a fault -/

section
variable {s t : State} {r : Request} {rest : List Request}

/-- A step that serves a request other than a construction runs an instruction, or raises what reading one reports. -/
theorem step_eq_exec_or_raise (hport : s.port = r :: rest) (hr : ∀ stream n, r ≠ .construct stream n) :
    (∃ i, step s = exec i (s.setPort rest)) ∨ ∃ e, step s = live (s.setPort rest) (raise e) := by
  cases r with
  | construct stream n => exact absurd rfl (hr stream n)
  | command n => exact .inl ⟨_, step_command hport⟩
  | bitSource q => exact .inl ⟨_, step_bitSource hport⟩
  | element k =>
    cases hd : s.decodeAt k with
    | ok i => exact .inl ⟨i, step_element_ok hport hd⟩
    | error e => exact .inr ⟨e, step_element_error hport hd⟩

/-- Under a latched fault such a step takes just its request off the port. -/
theorem step_faulted_eq (hs : s.fault = true) (hport : s.port = r :: rest)
    (hr : ∀ stream n, r ≠ .construct stream n) (h : step s = .next t) : t = s.setPort rest := by
  have hl : (s.setPort rest).fault = true := hs
  rcases step_eq_exec_or_raise hport hr with ⟨i, hi⟩ | ⟨e, he⟩
  · rw [hi] at h
    have hne : i ≠ .command3Unused := by rintro rfl; cases h
    rw [exec_of_fault hne hl] at h
    cases h
    rfl
  · rw [he, live_faulted _ hl] at h
    cases h
    rfl

end

/-- Settles O17: an idle step leaves the state, any other takes its request off the port (`step_faulted_eq`). -/
theorem onlyConstructionClearsTheFault : Obligations.OnlyConstructionClearsTheFault := by
  intro s t hs hc h
  cases hport : s.port with
  | nil =>
    rw [step_idle hport] at h
    cases h
    rw [List.tail_nil, ← hport]
  | cons r rest => exact step_faulted_eq hs hport (fun stream n hr => hc stream n rest (hr ▸ hport)) h

end Sys2Proof.Machine
end

section
/-! The fixed part of a frame header: the decoder and the four codes report the first violation in stream order (R180,
R294). -/

namespace Sys2Proof.Machine

section
variable {s : State} {r v : Raise} {n : Nat} {bad : Bool} {cs : List (Nat × Bool × Raise)}

/-! ## Fields ahead -/

theorem src_flag_eq (s : State) (off : Nat) : s.src.flag off = decide (s.ahead off 1 ≠ 0) := by
  rw [State.ahead, memRead_one]
  show bitAt s.stream (s.bitpos + off) = _
  cases bitAt s.stream (s.bitpos + off) <;> rfl

theorem src_bits_eq {off n : Nat} {x : BitVec n} (h : s.ahead off n = x.toNat) : s.src.bits off n = x :=
  BitVec.eq_of_toNat_eq ((src_bits_toNat s off n).trans h)

theorem src_bits_ne {off n : Nat} {x : BitVec n} (h : s.ahead off n ≠ x.toNat) : s.src.bits off n ≠ x :=
  fun he => h (by rw [← src_bits_toNat, he])

/-! ## The first violation of a list of checks -/

theorem firstFault_cons_whole (h : s.bitpos + n ≤ s.bitLength) :
    s.firstFault ((n, bad, r) :: cs) = if bad then some r else s.firstFault cs := if_neg h.not_gt

/-- Without a violation every field is whole and every condition holds. -/
theorem firstFault_eq_none :
    s.firstFault cs = none ↔ ∀ c ∈ cs, s.bitpos + c.1 ≤ s.bitLength ∧ c.2.1 = false := by
  induction cs with
  | nil => simp [State.firstFault]
  | cons c cs ih =>
    obtain ⟨n, bad, r⟩ := c
    rw [List.forall_mem_cons, ← ih]
    by_cases hb : s.bitpos + n ≤ s.bitLength
    · rw [firstFault_cons_whole hb]
      cases bad <;> simp [hb]
    · simp [State.firstFault, hb, not_le.1 hb]

/-! ## The decoder's violation

`preambleViolation` asks at each field first whether it is whole, then for its condition, as `firstFault` does; the last
violation is P04. -/

theorem violation_whole (h : s.bitpos + n ≤ s.bitLength →
      v = (if bad then some r else s.firstFault cs).getD (.gotOf .p04 1 0)) :
    (if !s.src.has n then .endOfStream else v) = (s.firstFault ((n, bad, r) :: cs)).getD (.gotOf .p04 1 0) := by
  by_cases hb : s.bitpos + n ≤ s.bitLength
  · rw [src_has hb, firstFault_cons_whole hb]
    exact h hb
  · rw [src_has_not (not_le.1 hb), State.firstFault, if_pos (not_le.1 hb)]
    rfl

theorem violation_if {p : Prop} [Decidable p] (hp : p ↔ bad = true)
    (h : v = (s.firstFault cs).getD (.gotOf .p04 1 0)) :
    (if p then r else v) = (if bad then some r else s.firstFault cs).getD (.gotOf .p04 1 0) := by
  subst h
  cases bad <;> simp [hp]

theorem violation_code (o : Option Raise) : o = (if bad then some r else none) →
    v = (s.firstFault cs).getD (.gotOf .p04 1 0) →
    (match o with | some r => r | none => v) = (if bad then some r else s.firstFault cs).getD (.gotOf .p04 1 0) := by
  rintro rfl rfl
  cases bad <;> rfl

/-- The channel assignment has two kinds of illegal code in one field (R192). -/
theorem violation_channels {c : Nat} (hb : s.bitpos + n ≤ s.bitLength)
    (h : v = (s.firstFault cs).getD (.gotOf .p04 1 0)) :
    (match caCodeFault c with | some r => r | none => v) =
      (if decide (11 ≤ c) then some (.got .a03 c)
        else s.firstFault ((n, decide (2 ≤ c ∧ c ≤ 7), .gotOf .a04 (c + 1) 2) :: cs)).getD (.gotOf .p04 1 0) := by
  subst h
  rw [firstFault_cons_whole hb]
  by_cases h11 : 11 ≤ c
  · simp [caCodeFault, h11]
  · by_cases h27 : 2 ≤ c ∧ c ≤ 7 <;> simp [caCodeFault, h11, h27]

/-- What the decoder reports of an illegal preamble is the first violation of the fixed part (R180, R294). -/
theorem preambleViolation_eq (s : State) :
    preambleViolation s.src = (s.firstFault s.headerChecks).getD (.gotOf .p04 1 0) := by
  refine violation_whole fun _ => violation_if decide_eq_true_iff.symm ?_
  refine violation_whole fun _ => violation_if (by rw [src_flag_eq]) ?_
  refine violation_whole fun _ => violation_code _ (by simp only [bsCodeFault, decide_eq_true_eq]; rfl) ?_
  refine violation_whole fun _ => violation_code _ (by simp only [srCodeFault, decide_eq_true_eq]; rfl) ?_
  refine violation_whole fun h28 => violation_channels h28 ?_
  refine violation_whole fun _ => violation_code _ (by simp only [ssCodeFault, decide_eq_true_eq]; rfl) ?_
  refine violation_whole fun _ => ?_
  cases decide (s.ahead 31 1 ≠ 0) <;> rfl

/-! ## The preamble -/

/-- A whole preamble with its fixed bits right is four codes; any other is its first violation (R95, R294). -/
theorem decodeAt_framePreamble (s : State) :
    s.decodeAt .framePreamble =
      if s.bitpos + 32 ≤ s.bitLength ∧ s.ahead 0 14 = 0x3FFE ∧ s.ahead 14 1 = 0 ∧ s.ahead 31 1 = 0 then
        .ok (.framePreamble (s.src.flag 15) (s.src.bits 16 4) (s.src.bits 20 4) (s.src.bits 24 4) (s.src.bits 28 3))
      else .error (preambleViolation s.src) := by
  have hcond : (s.src.has 32 && s.src.field 0 14 = Config.sync && !s.src.flag 14 && !s.src.flag 31) = true ↔
      s.bitpos + 32 ≤ s.bitLength ∧ s.ahead 0 14 = 0x3FFE ∧ s.ahead 14 1 = 0 ∧ s.ahead 31 1 = 0 := by
    have hhas : s.src.has 32 = true ↔ s.bitpos + 32 ≤ s.bitLength := decide_eq_true_iff
    have hsync : s.src.field 0 14 = Config.sync ↔ s.ahead 0 14 = 0x3FFE := Iff.rfl
    simp [hhas, hsync, src_flag_eq, and_assoc]
  show decodePreamble s.src = _
  simp only [decodePreamble, hcond]

/-- The codes that are neither reserved nor of more than two channels (R192). -/
theorem channelCode_mem {c : Nat} (hres : ¬11 ≤ c) (hmulti : ¬(2 ≤ c ∧ c ≤ 7)) : c ∈ [0, 1, 8, 9, 10] := by
  simp only [List.mem_cons, List.not_mem_nil]
  omega

/-- The first violation of the fixed part is the fault of the preamble. -/
theorem runLeaf_framePreamble_faults (hf : s.fault = false) (h : s.firstFault s.headerChecks = some r) :
    FaultsWith (runLeaf .framePreamble s) s r := by
  by_cases hd : s.bitpos + 32 ≤ s.bitLength ∧ s.ahead 0 14 = 0x3FFE ∧ s.ahead 14 1 = 0 ∧ s.ahead 31 1 = 0
  · obtain ⟨hb, hsync, h14, h31⟩ := hd
    obtain ⟨-, -, hp05, hp06, ha03, ha04, hp07⟩ := framePreambleElement s (s.src.flag 15) (s.src.bits 16 4)
      (s.src.bits 20 4) (s.src.bits 24 4) (s.src.bits 28 3) hf hb
    rw [runLeaf_ok hf ((decodeAt_framePreamble s).trans (if_pos ⟨hb, hsync, h14, h31⟩))]
    rw [src_bits_toNat] at ha03 ha04 hp07
    unfold State.headerChecks at h
    iterate 8 rw [firstFault_cons_whole (by omega)] at h
    simp only [hsync, h14, h31, ne_eq, not_true_eq_false, decide_false, Bool.false_eq_true, if_false,
      decide_eq_true_eq, State.firstFault] at h
    split_ifs at h with hbs hsr hres hmulti hss
    · cases h
      exact hp05 (src_bits_eq hbs)
    · cases h
      exact hp06 (src_bits_ne hbs) (src_bits_eq hsr)
    · cases h
      exact ha03 (src_bits_ne hbs) (src_bits_ne hsr) hres
    · cases h
      exact ha04 (src_bits_ne hbs) (src_bits_ne hsr) hmulti.1 hmulti.2
    · cases h
      exact hp07 (src_bits_ne hbs) (src_bits_ne hsr) (channelCode_mem hres hmulti) (src_bits_eq hss)
  · refine runLeaf_faults hf ?_
    rw [decodeAt_framePreamble, if_neg hd, preambleViolation_eq, h, Option.getD_some]

/-- Without a violation the preamble is read, and the header goes on behind it (R180). -/
theorem runLeaf_framePreamble_goes_on (hf : s.fault = false) (h : s.firstFault s.headerChecks = none) :
    ∃ t, runLeaf .framePreamble s = .next t ∧ t.fault = false := by
  have hall := firstFault_eq_none.1 h
  simp only [State.headerChecks, List.forall_mem_cons, decide_eq_false_iff_not, ne_eq, not_not] at hall
  obtain ⟨⟨-, hsync⟩, ⟨-, h14⟩, ⟨-, hbs⟩, ⟨-, hsr⟩, ⟨-, hres⟩, ⟨-, hmulti⟩, ⟨-, hss⟩, ⟨hb, h31⟩, -⟩ := hall
  obtain ⟨si, d, -, -, hrun⟩ := framePreamble_legal (strategy := s.src.flag 15) hf hb (src_bits_ne hbs)
    (src_bits_ne hsr) (ca := s.src.bits 24 4) (by rw [src_bits_toNat]; exact channelCode_mem hres hmulti)
    (src_bits_ne hss)
  rw [runLeaf_ok hf ((decodeAt_framePreamble s).trans (if_pos ⟨hb, hsync, h14, h31⟩))]
  exact ⟨_, hrun, hf⟩

end
end Sys2Proof.Machine
end

section
/-! The header behind its fixed part: each element is read where its bits are there, and takes P11 where they are not
(R96 to R99, R186 to R190); with the fixed part, O33. -/

namespace Sys2Proof.Machine

/-- The part reads `n` bits, or takes P11 where the stream has fewer left (R77). -/
structure ReadsOrEnds (n : Nat) (s : State) (o : Out) : Prop where
  whole : s.bitpos + n ≤ s.bitLength → ∃ t, o = .next t ∧ Reads n s t
  short : s.bitLength < s.bitpos + n → FaultsWith o s .endOfStream

section
variable {s t u : State} {m n : Nat} {o : Out}

theorem ReadsOrEnds.refl (s : State) (h : s.bitpos ≤ s.bitLength) : ReadsOrEnds 0 s (.next s) :=
  ⟨fun _ => ⟨s, rfl, .refl s⟩, fun h' => absurd h h'.not_ge⟩

/-- Two parts in a row. -/
theorem ReadsOrEnds.seq {f : State → Out} (hf : s.fault = false) (ho : ReadsOrEnds m s o)
    (h : ∀ t, o = .next t → Reads m s t → t.bitpos ≤ t.bitLength → ReadsOrEnds n t (f t)) :
    ReadsOrEnds (m + n) s (seq o f) := by
  by_cases hb : s.bitpos + m ≤ s.bitLength
  · obtain ⟨t, ht, hread⟩ := ho.whole hb
    obtain ⟨hwhole, hshort⟩ := h t ht hread (by rw [hread.bitpos, hread.bitLength]; exact hb)
    rw [hread.bitpos, hread.bitLength, Nat.add_assoc] at hwhole hshort
    rw [ht, seq_live f (hread.fault.trans hf)]
    refine ⟨fun hn => ?_, fun hn => (hshort hn).of_reads hread⟩
    obtain ⟨u, hu, hrest⟩ := hwhole hn
    exact ⟨u, hu, hread.trans hrest⟩
  · exact ⟨fun hn => absurd hn (by omega), fun _ => (ho.short (not_le.1 hb)).seq f⟩

/-! ## The elements -/

/-- A leaf of `n` bits that only writes working registers. -/
theorem wholeLeaf_readsOrEnds {k : Kind} {i : Instr} {w : Work → Work} (hf : s.fault = false)
    (hdecode : s.decodeAt k = whole n s.src i)
    (hexec : execLeaf i s = element n s fun u => .next (u.setWork (w u.work))) :
    ReadsOrEnds n s (runLeaf k s) where
  whole hb := by
    rw [runLeaf_ok hf (hdecode.trans (whole_src hb)), hexec]
    exact ⟨_, element_readTo hf hb rfl, reads_readTo _ _ _⟩
  short hb := runLeaf_faults hf (hdecode.trans (whole_src_short hb))

theorem whole_eq_error {b : BitSrc} {i : Instr} {r : Raise} :
    whole n b i = .error r ↔ b.has n = false ∧ .endOfStream = r := by
  unfold whole
  split
  · next h => simp [h]
  · next h => simp [h]

/-- A coded number that cannot be read is cut short (R96). -/
theorem decodeCodedNumber_error {b : BitSrc} {r : Raise} (h : decodeCodedNumber b = .error r) :
    b.has (8 + 8 * codedFollowing (b.field 0 8)) = false ∧ .endOfStream = r := by
  rw [← Bool.not_eq_true, BitSrc.has_iff]
  unfold decodeCodedNumber at h
  simp only at h
  split_ifs at h with h8
  · cases h
    rw [Bool.not_eq_true', ← Bool.not_eq_true, BitSrc.has_iff] at h8
    exact ⟨by omega, rfl⟩
  all_goals
    obtain ⟨hb, rfl⟩ := whole_eq_error.1 h
    rw [← Bool.not_eq_true, BitSrc.has_iff] at hb
    refine ⟨?_, rfl⟩
    unfold codedFollowing
    split_ifs
    omega

theorem codedNumber_readsOrEnds (hf : s.fault = false) :
    ReadsOrEnds (8 + 8 * codedFollowing (s.ahead 0 8)) s (runLeaf .codedNumber s) := by
  cases hd : s.decodeAt .codedNumber with
  | ok i =>
    have hlen : (encode i).length = 8 + 8 * codedFollowing (s.ahead 0 8) := length_decoded_codedNumber (b := s.src) hd
    have hholds : carries s.stream s.bitpos (encode i) := holds_decoded_codedNumber (b := s.src) hd
    have hb : s.bitpos + (encode i).length ≤ s.bitLength := hholds.bound
    rw [← hlen]
    exact ⟨fun _ => ⟨_, runLeaf_codedNumber hf (yields_codedNumber _ i hd) hholds, reads_readTo _ _ _⟩,
      fun h => absurd hb h.not_ge⟩
  | error r =>
    obtain ⟨hb, rfl⟩ := decodeCodedNumber_error (b := s.src) hd
    exact ⟨fun h => Bool.noConfusion ((src_has h).symm.trans hb), fun _ => runLeaf_faults hf hd⟩

theorem blocksizeExtension_readsOrEnds (hf : s.fault = false) (hpos : s.bitpos ≤ s.bitLength) :
    ReadsOrEnds (blocksizeExtWidth s.work.bsCode.toNat) s (blocksizeExtension s) := by
  unfold blocksizeExtension
  split_ifs with h6 h7
  · rw [h6]
    exact wholeLeaf_readsOrEnds (w := fun w => { w with blocksize := (s.src.bits 0 8).toNat + 1 }) hf rfl rfl
  · rw [h7]
    exact wholeLeaf_readsOrEnds (w := fun w => { w with blocksize := (s.src.bits 0 16).toNat + 1 }) hf rfl rfl
  · have h6' : s.work.bsCode.toNat ≠ 6 := toNat_ne_of_ne h6
    have h7' : s.work.bsCode.toNat ≠ 7 := toNat_ne_of_ne h7
    rw [blocksizeExtWidth, if_neg h6', if_neg h7']
    exact .refl s hpos

theorem rateExtension_readsOrEnds (hf : s.fault = false) (hpos : s.bitpos ≤ s.bitLength) :
    ReadsOrEnds (rateExtWidth s.work.srCode.toNat) s (rateExtension s) := by
  unfold rateExtension
  split_ifs with h12 h13 h14
  · rw [h12]
    exact wholeLeaf_readsOrEnds (w := fun w => { w with rate := (s.src.bits 0 8).toNat * 1000 }) hf rfl rfl
  · rw [h13]
    exact wholeLeaf_readsOrEnds (w := fun w => { w with rate := (s.src.bits 0 16).toNat * 1 }) hf rfl rfl
  · rw [h14]
    exact wholeLeaf_readsOrEnds (w := fun w => { w with rate := (s.src.bits 0 16).toNat * 10 }) hf rfl rfl
  · have h12' : s.work.srCode.toNat ≠ 12 := toNat_ne_of_ne h12
    have h13' : s.work.srCode.toNat ≠ 13 := toNat_ne_of_ne h13
    have h14' : s.work.srCode.toNat ≠ 14 := toNat_ne_of_ne h14
    rw [rateExtWidth, if_neg h12', if_neg (not_or.2 ⟨h13', h14'⟩)]
    exact .refl s hpos

/-! ## The elements in a row -/

/-- Behind the preamble: the coded number, the extensions that the codes have, the CRC-8. -/
theorem headerRest_readsOrEnds (hf : s.fault = false) :
    ReadsOrEnds (8 + 8 * codedFollowing (s.ahead 0 8) + (blocksizeExtWidth s.work.bsCode.toNat +
      (rateExtWidth s.work.srCode.toNat + 8))) s (headerRest s) := by
  refine .seq hf (codedNumber_readsOrEnds hf) fun t ht hread hpos => ?_
  have htf : t.fault = false := hread.fault.trans hf
  have htw : t.work = s.work := by rw [codedNumber_reads hf ht htf, State.readTo_work]
  rw [← htw]
  refine .seq htf (blocksizeExtension_readsOrEnds htf hpos) fun u hu hread hpos => ?_
  have huf : u.fault = false := hread.fault.trans htf
  have huw : u.work.srCode = t.work.srCode := by rw [blocksizeExtension_reads htf rfl hu huf, State.readTo_work]
  rw [← huw]
  refine .seq huf (rateExtension_readsOrEnds huf hpos) fun v _ hread _ => ?_
  exact wholeLeaf_readsOrEnds (k := .crc8) (w := id) (hread.fault.trans huf) rfl rfl

/-- Behind a legal fixed part the header is read whole, or takes P11 where it is cut short. -/
theorem headerFields_readsOrEnds (hf : s.fault = false) (h : s.firstFault s.headerChecks = none) :
    (s.bitpos + s.headerBits ≤ s.bitLength → ∃ t, headerFields s = .next t ∧ t.fault = false) ∧
    (s.bitLength < s.bitpos + s.headerBits → FaultsWith (headerFields s) s .endOfStream) := by
  obtain ⟨u, hu, huf⟩ := runLeaf_framePreamble_goes_on hf h
  obtain ⟨si, d, -, e⟩ := framePreamble_reads hf hu huf
  have hg : Goes s u := (plainLeaf_runs (p := False) (k := .framePreamble) rfl s).goes hu huf
  have hbits : 32 + (8 + 8 * codedFollowing (u.ahead 0 8) + (blocksizeExtWidth u.work.bsCode.toNat +
      (rateExtWidth u.work.srCode.toNat + 8))) = s.headerBits := by
    have hfirst : u.ahead 0 8 = s.ahead 32 8 := by rw [e]; exact ahead_readTo _ _ _ _ _
    have hbs : u.work.bsCode.toNat = s.ahead 16 4 := by rw [e]; exact src_bits_toNat s 16 4
    have hsr : u.work.srCode.toNat = s.ahead 20 4 := by rw [e]; exact src_bits_toNat s 20 4
    rw [hfirst, hbs, hsr]
    unfold State.headerBits State.headerRateOffset State.headerExtOffset
    omega
  have hpos : u.bitpos = s.bitpos + 32 := by rw [e]; rfl
  obtain ⟨hwhole, hshort⟩ := headerRest_readsOrEnds huf
  rw [hpos, Nat.add_assoc, hbits, hg.bitLength] at hwhole hshort
  rw [headerFields_eq, hu, seq_live _ huf]
  refine ⟨fun hb => ?_, fun hb => .after hg (hshort hb)⟩
  obtain ⟨t, ht, hread⟩ := hwhole hb
  exact ⟨t, ht, hread.fault.trans huf⟩

/-- A blocksize above `N` is A05 at the end of the header (R190). -/
theorem writeFrameRegs_faults (h : s.capacity < s.work.blocksize) :
    FaultsWith (writeFrameRegs s) s (.gotOf .a05 s.work.blocksize s.capacity) := by
  rw [writeFrameRegs, if_pos h]
  exact raise_faults _ s

/-- A header that was read leaves its blocksize in the working registers (R187). -/
theorem headerFields_blocksize (hf : s.fault = false) (h : headerFields s = .next t) (ht : t.fault = false) :
    t.work.blocksize = s.headerBlocksize := by
  obtain ⟨si, -, hwork⟩ := headerFields_reads hf h ht
  have hready : t.fault = false → HeaderReady t.work := (headerFields_runs (p := False) s).ensures t h
  obtain ⟨⟨-, hle⟩, -⟩ := hready ht
  have hregs := headerRegs_blocksize s si
  rw [State.headerRegs, ← hwork] at hregs
  rw [← hregs]
  exact ((BitVec.toNat_ofNat _ _).trans (Nat.mod_eq_of_lt (by omega))).symm

/-- Behind the whole header a blocksize above `N` ends the frame. -/
theorem decodeFrame_blocksize_faults (hf : s.fault = false) (h : headerFields s = .next t) (ht : t.fault = false)
    (hcap : s.capacity < s.headerBlocksize) :
    FaultsWith (decodeFrame s) s (.gotOf .a05 s.headerBlocksize s.capacity) := by
  have hg : Goes s t := (headerFields_runs (p := False) s).goes h ht
  rw [← headerFields_blocksize hf h ht, ← hg.capacity] at hcap ⊢
  rw [decodeFrame_eq, h, seq_live _ ht]
  exact .after hg ((writeFrameRegs_faults hcap).seq _)

/-- What ends a frame in its header, in the order of R294. -/
theorem decodeFrame_headerFaults (hf : s.fault = false) :
    (∀ r, s.firstFault s.headerChecks = some r → FaultsWith (decodeFrame s) s r) ∧
    (s.firstFault s.headerChecks = none →
      (s.bitLength < s.bitpos + s.headerBits → FaultsWith (decodeFrame s) s .endOfStream) ∧
      (s.bitpos + s.headerBits ≤ s.bitLength → s.capacity < s.headerBlocksize →
        FaultsWith (decodeFrame s) s (.gotOf .a05 s.headerBlocksize s.capacity))) := by
  have hheader : ∀ {r}, FaultsWith (headerFields s) s r → FaultsWith (decodeFrame s) s r := fun hr => by
    rw [decodeFrame_eq]
    exact hr.seq _
  refine ⟨fun r h => hheader ((runLeaf_framePreamble_faults hf h).seq headerRest), fun h => ?_⟩
  obtain ⟨hwhole, hshort⟩ := headerFields_readsOrEnds hf h
  refine ⟨fun hb => hheader (hshort hb), fun hb hcap => ?_⟩
  obtain ⟨t, ht, htf⟩ := hwhole hb
  exact decodeFrame_blocksize_faults hf ht htf hcap

end

/-- Settles O33: the header is the first part of the frame, so its first violation ends the command. -/
theorem frameHeaderFaultOrder : Obligations.FrameHeaderFaultOrder := by
  intro s hf hstate he
  have hlegal : legal .decodeAudio s.decState = true := by
    rcases hstate with h | h <;> rw [h] <;> rfl
  have hframe : ∀ {r}, FaultsWith (decodeFrame (s.setFrValid false)) s r → FaultsWith (exec .decodeAudio s) s r := by
    intro r hr
    have hclear : ¬(s.setFrValid false).eos = true := by
      show ¬s.eos = true
      simp [he]
    rw [execDecodeAudio_eq hf hlegal, audioBody, if_neg hclear]
    exact hr.seq _
  obtain ⟨hfirst, hrest⟩ := decodeFrame_headerFaults (s := s.setFrValid false) hf
  refine ⟨fun r h => hframe (hfirst r h), fun h => ?_⟩
  obtain ⟨hshort, hblock⟩ := hrest h
  have hlong : 40 ≤ s.headerBits := by
    unfold State.headerBits State.headerRateOffset State.headerExtOffset
    omega
  refine ⟨fun hb => hframe (hshort ?_), fun _ hb => hframe (hshort hb), fun hb hcap => hframe (hblock hb hcap)⟩
  show s.bitLength < s.bitpos + s.headerBits
  omega

end Sys2Proof.Machine
end

section
/-! Construction (R330), the way out of a fault, and `COMPLETE` without a fault, which is the end of the stream (R341). -/

namespace Sys2Proof.Machine

section
variable {s t : State} {r : Request} {rest : List Request}

/-- With a capacity that R4 admits, construction answers the state after reset, the other requests waiting. -/
theorem reconstruct_next (stream : List Byte) {n : Nat} (hn : n ≠ 0) :
    reconstruct stream n s = .next ((State.construct stream n).setPort s.port) := if_neg hn

/-- Whatever the capacity, construction leads to `INIT` alone (R35). -/
theorem reconstruct_init (stream : List Byte) (n : Nat) (s : State) :
    Post (fun t => t.decState = .init) (reconstruct stream n s) := by
  by_cases hn : n = 0
  · rw [reconstruct, if_pos hn]
    exact post_refused _ _
  · rw [reconstruct_next stream hn]
    exact (post_next _ _).2 rfl

/-! ## The end of the stream -/

theorem eos_iff : s.eos = true ↔ s.bitpos = s.bitLength := decide_eq_true_iff

/-- A step that takes no fault has found none latched, unless it serves a construction (R296). -/
theorem not_faulted_before (hport : s.port = r :: rest) (hr : ∀ stream n, r ≠ .construct stream n)
    (h : step s = .next t) (ht : t.fault = false) : s.fault = false := by
  cases hs : s.fault with
  | false => rfl
  | true =>
    obtain rfl := step_faulted_eq hs hport hr h
    exact hs.symm.trans ht

/-- Into `COMPLETE` leads only a `decode_audio` that finds the end of the stream, and what keeps `COMPLETE` starts
there (R151). -/
theorem eos_of_step_complete (hport : s.port = r :: rest) (hr : ∀ stream n, r ≠ .construct stream n)
    (hend : s.decState = .complete → s.fault = false → s.eos = true) (h : step s = .next t)
    (hc : t.decState = .complete) (ht : t.fault = false) : s.eos = true := by
  have hs : s.fault = false := not_faulted_before hport hr h ht
  obtain ⟨hkeep, hmove⟩ := stateMachine s t r rest hport h hend hr
  by_cases hcmd : ∃ n, r = .command n
  · obtain ⟨n, hn⟩ := hcmd
    rcases hmove n hn hs ht with ⟨-, -, hd⟩ | ⟨-, -, -, hd⟩ | ⟨-, -, -, hd⟩ | ⟨-, -, -, -, hd⟩ | ⟨-, -, he, -⟩ |
      ⟨-, -, he, -⟩
    · cases hc.symm.trans hd
    · cases hc.symm.trans hd
    · cases hc.symm.trans hd
    · cases hc.symm.trans hd
    · exact he
    · exact he
  · have hd : t.decState = s.decState := hkeep (.inr (.inr (not_exists.1 hcmd)))
    exact hend (hd.symm.trans hc) hs

/-- `BITPOS` moves upwards and within `8·L` (R22), so at the end of the stream it stays. -/
theorem step_keeps_end (hport : s.port = r :: rest) (hr : ∀ stream n, r ≠ .construct stream n)
    (hend : s.bitpos = s.bitLength) (h : step s = .next t) (ht : t.fault = false) : t.bitpos = t.bitLength := by
  have hfwd : Forward (s.setPort rest) t := step_forward hport hr t h
  have hL : t.bitLength = s.bitLength := State.bitLength_congr s t hfwd.stream
  obtain ⟨hle, hub⟩ : s.bitpos ≤ t.bitpos ∧ t.bitpos ≤ s.bitLength := hfwd.bitpos ht hend.le
  omega

end

/-- Settles O12: the step is the construction of the request (`step_construct`), and construction is reset. -/
theorem constructionResets : Obligations.ConstructionResets := by
  intro s stream n rest hport hn
  exact ⟨(State.construct stream n).setPort rest,
    (step_construct hport).trans (reconstruct_next stream (Nat.one_le_iff_ne_zero.1 hn)),
    rfl, rfl, rfl, rfl, rfl, rfl, rfl, rfl, rfl, rfl⟩

/-- Settles O23, request by request: an idle step leaves the state, a construction leads to `INIT`, and any other step
that ends in `COMPLETE` started at the end of the stream (`eos_of_step_complete`) and stays there
(`step_keeps_end`). -/
theorem completeMeansAtTheEnd : Obligations.CompleteMeansAtTheEnd := by
  intro s t _ hend h hc ht
  rcases hport : s.port with _ | ⟨r, rest⟩
  · rw [step_idle hport] at h
    cases h
    exact hend hc ht
  by_cases hr : ∀ stream n, r ≠ .construct stream n
  · have he : s.eos = true := eos_of_step_complete hport hr (fun hd hf => eos_iff.2 (hend hd hf)) h hc ht
    exact step_keeps_end hport hr (eos_iff.1 he) h ht
  · push Not at hr
    obtain ⟨stream, n, rfl⟩ := hr
    rw [step_construct hport] at h
    cases hc.symm.trans (reconstruct_init stream n _ t h)

end Sys2Proof.Machine
end
